-- ==== Sys2Proof/Word.lean ====
section
/-!
DEFINITION. The machine's data: octets and octet strings (00_scope R6, R8), table entries and headers
(10_state R21, R29), the three phases of a block (10_state R26) and the ten error codes (60_exceptions R321).
-/

namespace Sys2Proof

/-- An octet: an 8-bit unsigned value, bit 7 the most significant (00_scope R6). -/
abbrev Octet := BitVec 8

/-- An octet string (00_scope R8). -/
abbrev Octets := List Octet

/-- The octet string whose octets have the given values. -/
def octets (values : List Nat) : Octets := values.map (BitVec.ofNat 8)

/-- An entry of the static or of a dynamic table: a pair `(name, value)`; the `sensitive` flag is never
stored (10_state R21, R38). -/
structure Entry where
  name : Octets
  value : Octets
deriving DecidableEq, Repr, Inhabited

/-- A header: the triple `(name, value, sensitive)` (00_scope R14, 10_state R29). -/
structure Header where
  name : Octets
  value : Octets
  sensitive : Bool
deriving DecidableEq, Repr, Inhabited

/-- The three values of the register `PHASE` (10_state R26). -/
inductive Phase where
  /-- `AwaitingSizeUpdates`, the phase in which a block starts. -/
  | awaitingSizeUpdates
  /-- `AwaitingField`, after the first representation of the block that is not a size update. -/
  | awaitingField
  /-- `Done`, the block is exhausted. -/
  | done
deriving DecidableEq, Repr, Inhabited

/-- The values of the register `ERR` (60_exceptions R321), in the order of the spec's table. -/
inductive ErrCode where
  /-- `OK`: no error. -/
  | ok
  /-- `IntegerValueTooLarge` (R322). -/
  | integerValueTooLarge
  /-- `IntegerEncodedLengthTooLong` (R323). -/
  | integerEncodedLengthTooLong
  /-- `StringLiteralLengthTooLong` (R324). -/
  | stringLiteralLengthTooLong
  /-- `Truncated` (R325). -/
  | truncated
  /-- `HuffmanDecodeFailure` (R326). -/
  | huffmanDecodeFailure
  /-- `InvalidIndex` (R327). -/
  | invalidIndex
  /-- `SizeUpdateTooLarge` (R328). -/
  | sizeUpdateTooLarge
  /-- `SizeUpdateOutOfOrder` (R329). -/
  | sizeUpdateOutOfOrder
  /-- `UnknownRepresentation`: defensive, raised by no rule (R331). -/
  | unknownRepresentation
deriving DecidableEq, Repr, Inhabited

end Sys2Proof
end

