-- ==== Sys2Proof/Config.lean ====
section
/-!
DEFINITION. The implementation parameters of 00_scope R5, and the free values of 60_exceptions R330 step 4.
-/

namespace Sys2Proof

/-- `STATIC_COUNT` (00_scope R5, 10_state R33). -/
abbrev Config.staticCount : Nat := 61

/-- `ENTRY_OVERHEAD` (00_scope R5, 10_state R22). -/
abbrev Config.entryOverhead : Nat := 32

/-- One past the largest value of a scalar register or operand: `CFGW` is 64 (92_eei_decisions D2). -/
abbrev Config.wordLimit : Nat := 2 ^ 64

/-- `DT_CAP_MAX`, the largest operand INIT and SET_MAX_SIZE accept. OPEN in the spec, which says a model may
take 2^64 - 1 (00_scope R5, 92_eei_decisions D14). DESIGN CHOICE, notes/assumptions/11.md; unsafe for a block
with less storage. -/
abbrev Config.dtCapMax : Nat := 2 ^ 64 - 1

/-- `ENFORCE_SIZEUPD_ORDER` (00_scope R5, 92_eei_decisions D12; notes/assumptions/12.md). -/
abbrev Config.enforceSizeUpdateOrder : Bool := true

/-- `SET_MAX_UPDATES_PROTO` (00_scope R5, 92_eei_decisions D13; notes/assumptions/12.md). -/
abbrev Config.setMaxUpdatesProto : Bool := false

/-- Reset value of `INT_VALUE_MAX` (10_state R20, R39). -/
abbrev Config.intValueMaxReset : Nat := 2 ^ 32 - 1

/-- Reset value of `INT_ENC_LEN_MAX` (10_state R20, R39). -/
abbrev Config.intEncLenMaxReset : Nat := 6

/-- Reset value of `STR_LEN_MAX` (10_state R20, R39). -/
abbrev Config.strLenMaxReset : Nat := 65536

/-- The operand with which the model's reset constructs both contexts. The spec leaves it to the host
(10_state R39). DESIGN CHOICE, notes/assumptions/1.md; unsafe. -/
abbrev Config.resetMaxSize : Nat := 4096

/-- Free value: what `DT` holds after the `k`-th error (60_exceptions R330 step 4, 93_implementation_defined U1;
notes/assumptions/6.md). -/
opaque Config.freeEntries : Nat → List Entry

/-- Free value: what `CUR_SIZE` holds after the `k`-th error (R330 step 4, U1; notes/assumptions/6.md). -/
opaque Config.freeCurSize : Nat → BitVec 64

/-- Free value: what `MAX_SIZE` holds after the `k`-th error (R330 step 4, U1; notes/assumptions/6.md). -/
opaque Config.freeMaxSize : Nat → BitVec 64

/-- Free value: what `PHASE` holds after the `k`-th error (R330 step 4, U1; notes/assumptions/6.md). -/
opaque Config.freePhase : Nat → Phase

/-- Free value: what `POS` holds after the `k`-th error (R330 step 4, U1; notes/assumptions/6.md). -/
opaque Config.freePos : Nat → BitVec 64

/-- Free value: what `OUT` holds after the `k`-th error (R330 step 4, U2; notes/assumptions/6.md). -/
opaque Config.freeOut : Nat → List Header

end Sys2Proof
end

