-- ==== Sys2Proof/Machine/Flags.lean ====
section
/-!
DEFINITION. The flags and predicates of 10_state R32: the Huffman flag H, the phase of a block with its transitions
(45_dispatch R245), and the error predicate; the numbers of `PHASE` and `ERR` (92_eei_decisions D3).
-/

namespace Sys2Proof.Machine

/-- The Huffman flag H of a string literal: bit 7 of the flag bits that `INT.DEC` returns (41_string R151 step 2). -/
def hFlag (pfx : Octet) : Bool := pfx.getLsbD 7

/-- The flag bits with which a string literal's length is encoded: `0x80` for H = 1, else 0 (47_encoder R293). -/
def hFlagOctet (huffman : Bool) : Octet := if huffman then 0x80 else 0x00

/-- The number of a phase (10_state R26; 92_eei_decisions D3). -/
def phaseNumber : Phase → Nat
  | .awaitingSizeUpdates => 0
  | .awaitingField => 1
  | .done => 2

/-- The number of an error code, the value of `ERR` (60_exceptions R321). -/
def errNumber : ErrCode → Nat
  | .ok => 0
  | .integerValueTooLarge => 1
  | .integerEncodedLengthTooLong => 2
  | .stringLiteralLengthTooLong => 3
  | .truncated => 4
  | .huffmanDecodeFailure => 5
  | .invalidIndex => 6
  | .sizeUpdateTooLarge => 7
  | .sizeUpdateOutOfOrder => 8
  | .unknownRepresentation => 9

/-- The phase in which every block starts (45_dispatch R236, R245; 92_eei_decisions D11). -/
def phaseAtStart : Phase := .awaitingSizeUpdates

/-- The phase after a field representation completes, whatever it was before (45_dispatch R245). -/
def phaseAfterField : Phase := .awaitingField

/-- The phase when the block is exhausted (45_dispatch R236, R245). -/
def phaseAtEnd : Phase := .done

/-- The order test of `SIZEUPD` (45_dispatch R244 step 1): a size update is in order only in the phase
`AwaitingSizeUpdates`. -/
def sizeUpdateInOrder (phase : Phase) : Bool :=
  !Config.enforceSizeUpdateOrder || phase == .awaitingSizeUpdates

/-- `ERR = 0`: the context is healthy (10_state R28, R32). -/
def healthy (err : ErrCode) : Bool := err == .ok

end Sys2Proof.Machine
end

