-- ==== Sys2Proof/Machine/Rom.lean ====
section
/-!
DEFINITION. The read-only memories: `HUFF_CODE` (10_state R34, 43_huffman_table R201) and `STATIC` (10_state R33,
44_tables R206). The decode trie `TRIE` (10_state R35) follows from `HUFF_CODE`; it is in Machine/Huffman.lean.
PRESUMED: the spec gives both tables from general knowledge (93_implementation_defined GK1, GK2;
notes/assumptions/8.md, notes/assumptions/9.md); unsafe if a row is wrong.
-/

namespace Sys2Proof.Machine

/-- One row of `HUFF_CODE`: the code as a number, right-aligned in `len` bits, and its length (43_huffman_table R201). -/
structure HuffCode where
  code : Nat
  len : Nat
deriving DecidableEq, Repr, Inhabited

/-- `HUFF_CODE`, symbols 0 to 31. -/
def huffCodes0 : List HuffCode :=
  [⟨0x1ff8, 13⟩, ⟨0x7fffd8, 23⟩, ⟨0xfffffe2, 28⟩, ⟨0xfffffe3, 28⟩, ⟨0xfffffe4, 28⟩, ⟨0xfffffe5, 28⟩,
   ⟨0xfffffe6, 28⟩, ⟨0xfffffe7, 28⟩, ⟨0xfffffe8, 28⟩, ⟨0xffffea, 24⟩, ⟨0x3ffffffc, 30⟩, ⟨0xfffffe9, 28⟩,
   ⟨0xfffffea, 28⟩, ⟨0x3ffffffd, 30⟩, ⟨0xfffffeb, 28⟩, ⟨0xfffffec, 28⟩, ⟨0xfffffed, 28⟩, ⟨0xfffffee, 28⟩,
   ⟨0xfffffef, 28⟩, ⟨0xffffff0, 28⟩, ⟨0xffffff1, 28⟩, ⟨0xffffff2, 28⟩, ⟨0x3ffffffe, 30⟩, ⟨0xffffff3, 28⟩,
   ⟨0xffffff4, 28⟩, ⟨0xffffff5, 28⟩, ⟨0xffffff6, 28⟩, ⟨0xffffff7, 28⟩, ⟨0xffffff8, 28⟩, ⟨0xffffff9, 28⟩,
   ⟨0xffffffa, 28⟩, ⟨0xffffffb, 28⟩]

/-- `HUFF_CODE`, symbols 32 to 63. -/
def huffCodes32 : List HuffCode :=
  [⟨0x14, 6⟩, ⟨0x3f8, 10⟩, ⟨0x3f9, 10⟩, ⟨0xffa, 12⟩, ⟨0x1ff9, 13⟩, ⟨0x15, 6⟩,
   ⟨0xf8, 8⟩, ⟨0x7fa, 11⟩, ⟨0x3fa, 10⟩, ⟨0x3fb, 10⟩, ⟨0xf9, 8⟩, ⟨0x7fb, 11⟩,
   ⟨0xfa, 8⟩, ⟨0x16, 6⟩, ⟨0x17, 6⟩, ⟨0x18, 6⟩, ⟨0x0, 5⟩, ⟨0x1, 5⟩,
   ⟨0x2, 5⟩, ⟨0x19, 6⟩, ⟨0x1a, 6⟩, ⟨0x1b, 6⟩, ⟨0x1c, 6⟩, ⟨0x1d, 6⟩,
   ⟨0x1e, 6⟩, ⟨0x1f, 6⟩, ⟨0x5c, 7⟩, ⟨0xfb, 8⟩, ⟨0x7ffc, 15⟩, ⟨0x20, 6⟩,
   ⟨0xffb, 12⟩, ⟨0x3fc, 10⟩]

/-- `HUFF_CODE`, symbols 64 to 95. -/
def huffCodes64 : List HuffCode :=
  [⟨0x1ffa, 13⟩, ⟨0x21, 6⟩, ⟨0x5d, 7⟩, ⟨0x5e, 7⟩, ⟨0x5f, 7⟩, ⟨0x60, 7⟩,
   ⟨0x61, 7⟩, ⟨0x62, 7⟩, ⟨0x63, 7⟩, ⟨0x64, 7⟩, ⟨0x65, 7⟩, ⟨0x66, 7⟩,
   ⟨0x67, 7⟩, ⟨0x68, 7⟩, ⟨0x69, 7⟩, ⟨0x6a, 7⟩, ⟨0x6b, 7⟩, ⟨0x6c, 7⟩,
   ⟨0x6d, 7⟩, ⟨0x6e, 7⟩, ⟨0x6f, 7⟩, ⟨0x70, 7⟩, ⟨0x71, 7⟩, ⟨0x72, 7⟩,
   ⟨0xfc, 8⟩, ⟨0x73, 7⟩, ⟨0xfd, 8⟩, ⟨0x1ffb, 13⟩, ⟨0x7fff0, 19⟩, ⟨0x1ffc, 13⟩,
   ⟨0x3ffc, 14⟩, ⟨0x22, 6⟩]

/-- `HUFF_CODE`, symbols 96 to 127. -/
def huffCodes96 : List HuffCode :=
  [⟨0x7ffd, 15⟩, ⟨0x3, 5⟩, ⟨0x23, 6⟩, ⟨0x4, 5⟩, ⟨0x24, 6⟩, ⟨0x5, 5⟩,
   ⟨0x25, 6⟩, ⟨0x26, 6⟩, ⟨0x27, 6⟩, ⟨0x6, 5⟩, ⟨0x74, 7⟩, ⟨0x75, 7⟩,
   ⟨0x28, 6⟩, ⟨0x29, 6⟩, ⟨0x2a, 6⟩, ⟨0x7, 5⟩, ⟨0x2b, 6⟩, ⟨0x76, 7⟩,
   ⟨0x2c, 6⟩, ⟨0x8, 5⟩, ⟨0x9, 5⟩, ⟨0x2d, 6⟩, ⟨0x77, 7⟩, ⟨0x78, 7⟩,
   ⟨0x79, 7⟩, ⟨0x7a, 7⟩, ⟨0x7b, 7⟩, ⟨0x7ffe, 15⟩, ⟨0x7fc, 11⟩, ⟨0x3ffd, 14⟩,
   ⟨0x1ffd, 13⟩, ⟨0xffffffc, 28⟩]

/-- `HUFF_CODE`, symbols 128 to 159. -/
def huffCodes128 : List HuffCode :=
  [⟨0xfffe6, 20⟩, ⟨0x3fffd2, 22⟩, ⟨0xfffe7, 20⟩, ⟨0xfffe8, 20⟩, ⟨0x3fffd3, 22⟩, ⟨0x3fffd4, 22⟩,
   ⟨0x3fffd5, 22⟩, ⟨0x7fffd9, 23⟩, ⟨0x3fffd6, 22⟩, ⟨0x7fffda, 23⟩, ⟨0x7fffdb, 23⟩, ⟨0x7fffdc, 23⟩,
   ⟨0x7fffdd, 23⟩, ⟨0x7fffde, 23⟩, ⟨0xffffeb, 24⟩, ⟨0x7fffdf, 23⟩, ⟨0xffffec, 24⟩, ⟨0xffffed, 24⟩,
   ⟨0x3fffd7, 22⟩, ⟨0x7fffe0, 23⟩, ⟨0xffffee, 24⟩, ⟨0x7fffe1, 23⟩, ⟨0x7fffe2, 23⟩, ⟨0x7fffe3, 23⟩,
   ⟨0x7fffe4, 23⟩, ⟨0x1fffdc, 21⟩, ⟨0x3fffd8, 22⟩, ⟨0x7fffe5, 23⟩, ⟨0x3fffd9, 22⟩, ⟨0x7fffe6, 23⟩,
   ⟨0x7fffe7, 23⟩, ⟨0xffffef, 24⟩]

/-- `HUFF_CODE`, symbols 160 to 191. -/
def huffCodes160 : List HuffCode :=
  [⟨0x3fffda, 22⟩, ⟨0x1fffdd, 21⟩, ⟨0xfffe9, 20⟩, ⟨0x3fffdb, 22⟩, ⟨0x3fffdc, 22⟩, ⟨0x7fffe8, 23⟩,
   ⟨0x7fffe9, 23⟩, ⟨0x1fffde, 21⟩, ⟨0x7fffea, 23⟩, ⟨0x3fffdd, 22⟩, ⟨0x3fffde, 22⟩, ⟨0xfffff0, 24⟩,
   ⟨0x1fffdf, 21⟩, ⟨0x3fffdf, 22⟩, ⟨0x7fffeb, 23⟩, ⟨0x7fffec, 23⟩, ⟨0x1fffe0, 21⟩, ⟨0x1fffe1, 21⟩,
   ⟨0x3fffe0, 22⟩, ⟨0x1fffe2, 21⟩, ⟨0x7fffed, 23⟩, ⟨0x3fffe1, 22⟩, ⟨0x7fffee, 23⟩, ⟨0x7fffef, 23⟩,
   ⟨0xfffea, 20⟩, ⟨0x3fffe2, 22⟩, ⟨0x3fffe3, 22⟩, ⟨0x3fffe4, 22⟩, ⟨0x7ffff0, 23⟩, ⟨0x3fffe5, 22⟩,
   ⟨0x3fffe6, 22⟩, ⟨0x7ffff1, 23⟩]

/-- `HUFF_CODE`, symbols 192 to 223. -/
def huffCodes192 : List HuffCode :=
  [⟨0x3ffffe0, 26⟩, ⟨0x3ffffe1, 26⟩, ⟨0xfffeb, 20⟩, ⟨0x7fff1, 19⟩, ⟨0x3fffe7, 22⟩, ⟨0x7ffff2, 23⟩,
   ⟨0x3fffe8, 22⟩, ⟨0x1ffffec, 25⟩, ⟨0x3ffffe2, 26⟩, ⟨0x3ffffe3, 26⟩, ⟨0x3ffffe4, 26⟩, ⟨0x7ffffde, 27⟩,
   ⟨0x7ffffdf, 27⟩, ⟨0x3ffffe5, 26⟩, ⟨0xfffff1, 24⟩, ⟨0x1ffffed, 25⟩, ⟨0x7fff2, 19⟩, ⟨0x1fffe3, 21⟩,
   ⟨0x3ffffe6, 26⟩, ⟨0x7ffffe0, 27⟩, ⟨0x7ffffe1, 27⟩, ⟨0x3ffffe7, 26⟩, ⟨0x7ffffe2, 27⟩, ⟨0xfffff2, 24⟩,
   ⟨0x1fffe4, 21⟩, ⟨0x1fffe5, 21⟩, ⟨0x3ffffe8, 26⟩, ⟨0x3ffffe9, 26⟩, ⟨0xffffffd, 28⟩, ⟨0x7ffffe3, 27⟩,
   ⟨0x7ffffe4, 27⟩, ⟨0x7ffffe5, 27⟩]

/-- `HUFF_CODE`, symbols 224 to 255. -/
def huffCodes224 : List HuffCode :=
  [⟨0xfffec, 20⟩, ⟨0xfffff3, 24⟩, ⟨0xfffed, 20⟩, ⟨0x1fffe6, 21⟩, ⟨0x3fffe9, 22⟩, ⟨0x1fffe7, 21⟩,
   ⟨0x1fffe8, 21⟩, ⟨0x7ffff3, 23⟩, ⟨0x3fffea, 22⟩, ⟨0x3fffeb, 22⟩, ⟨0x1ffffee, 25⟩, ⟨0x1ffffef, 25⟩,
   ⟨0xfffff4, 24⟩, ⟨0xfffff5, 24⟩, ⟨0x3ffffea, 26⟩, ⟨0x7ffff4, 23⟩, ⟨0x3ffffeb, 26⟩, ⟨0x7ffffe6, 27⟩,
   ⟨0x3ffffec, 26⟩, ⟨0x3ffffed, 26⟩, ⟨0x7ffffe7, 27⟩, ⟨0x7ffffe8, 27⟩, ⟨0x7ffffe9, 27⟩, ⟨0x7ffffea, 27⟩,
   ⟨0x7ffffeb, 27⟩, ⟨0xffffffe, 28⟩, ⟨0x7ffffec, 27⟩, ⟨0x7ffffed, 27⟩, ⟨0x7ffffee, 27⟩, ⟨0x7ffffef, 27⟩,
   ⟨0x7fffff0, 27⟩, ⟨0x3ffffee, 26⟩]

/-- `HUFF_CODE`, symbols 256 to 256. -/
def huffCodes256 : List HuffCode :=
  [⟨0x3fffffff, 30⟩]

/-- `HUFF_CODE[sym]` for `sym = 0 .. 256`, EOS last (43_huffman_table R201). -/
def huffCodeTable : List HuffCode :=
  huffCodes0 ++ huffCodes32 ++ huffCodes64 ++ huffCodes96 ++ huffCodes128 ++ huffCodes160 ++ huffCodes192 ++ huffCodes224 ++ huffCodes256

/-- The symbol number of EOS (10_state R34). -/
abbrev eosSymbol : Nat := 256

/-- The row of one symbol. -/
def huffCodeOf (sym : Nat) : HuffCode := huffCodeTable.getD sym default

/-- `STATIC`, indices 1 to 16. -/
def static1 : List Entry :=
  [-- 1 :authority
   ⟨octets [0x3a, 0x61, 0x75, 0x74, 0x68, 0x6f, 0x72, 0x69, 0x74, 0x79],
    []⟩,
   -- 2 :method = GET
   ⟨octets [0x3a, 0x6d, 0x65, 0x74, 0x68, 0x6f, 0x64],
    octets [0x47, 0x45, 0x54]⟩,
   -- 3 :method = POST
   ⟨octets [0x3a, 0x6d, 0x65, 0x74, 0x68, 0x6f, 0x64],
    octets [0x50, 0x4f, 0x53, 0x54]⟩,
   -- 4 :path = /
   ⟨octets [0x3a, 0x70, 0x61, 0x74, 0x68],
    octets [0x2f]⟩,
   -- 5 :path = /index.html
   ⟨octets [0x3a, 0x70, 0x61, 0x74, 0x68],
    octets [0x2f, 0x69, 0x6e, 0x64, 0x65, 0x78, 0x2e, 0x68, 0x74, 0x6d, 0x6c]⟩,
   -- 6 :scheme = http
   ⟨octets [0x3a, 0x73, 0x63, 0x68, 0x65, 0x6d, 0x65],
    octets [0x68, 0x74, 0x74, 0x70]⟩,
   -- 7 :scheme = https
   ⟨octets [0x3a, 0x73, 0x63, 0x68, 0x65, 0x6d, 0x65],
    octets [0x68, 0x74, 0x74, 0x70, 0x73]⟩,
   -- 8 :status = 200
   ⟨octets [0x3a, 0x73, 0x74, 0x61, 0x74, 0x75, 0x73],
    octets [0x32, 0x30, 0x30]⟩,
   -- 9 :status = 204
   ⟨octets [0x3a, 0x73, 0x74, 0x61, 0x74, 0x75, 0x73],
    octets [0x32, 0x30, 0x34]⟩,
   -- 10 :status = 206
   ⟨octets [0x3a, 0x73, 0x74, 0x61, 0x74, 0x75, 0x73],
    octets [0x32, 0x30, 0x36]⟩,
   -- 11 :status = 304
   ⟨octets [0x3a, 0x73, 0x74, 0x61, 0x74, 0x75, 0x73],
    octets [0x33, 0x30, 0x34]⟩,
   -- 12 :status = 400
   ⟨octets [0x3a, 0x73, 0x74, 0x61, 0x74, 0x75, 0x73],
    octets [0x34, 0x30, 0x30]⟩,
   -- 13 :status = 404
   ⟨octets [0x3a, 0x73, 0x74, 0x61, 0x74, 0x75, 0x73],
    octets [0x34, 0x30, 0x34]⟩,
   -- 14 :status = 500
   ⟨octets [0x3a, 0x73, 0x74, 0x61, 0x74, 0x75, 0x73],
    octets [0x35, 0x30, 0x30]⟩,
   -- 15 accept-charset
   ⟨octets [0x61, 0x63, 0x63, 0x65, 0x70, 0x74, 0x2d, 0x63, 0x68, 0x61, 0x72, 0x73, 0x65, 0x74],
    []⟩,
   -- 16 accept-encoding = gzip, deflate
   ⟨octets [0x61, 0x63, 0x63, 0x65, 0x70, 0x74, 0x2d, 0x65, 0x6e, 0x63, 0x6f, 0x64, 0x69, 0x6e, 0x67],
    octets [0x67, 0x7a, 0x69, 0x70, 0x2c, 0x20, 0x64, 0x65, 0x66, 0x6c, 0x61, 0x74, 0x65]⟩]

/-- `STATIC`, indices 17 to 32. -/
def static17 : List Entry :=
  [-- 17 accept-language
   ⟨octets [0x61, 0x63, 0x63, 0x65, 0x70, 0x74, 0x2d, 0x6c, 0x61, 0x6e, 0x67, 0x75, 0x61, 0x67, 0x65],
    []⟩,
   -- 18 accept-ranges
   ⟨octets [0x61, 0x63, 0x63, 0x65, 0x70, 0x74, 0x2d, 0x72, 0x61, 0x6e, 0x67, 0x65, 0x73],
    []⟩,
   -- 19 accept
   ⟨octets [0x61, 0x63, 0x63, 0x65, 0x70, 0x74],
    []⟩,
   -- 20 access-control-allow-origin
   ⟨octets [0x61, 0x63, 0x63, 0x65, 0x73, 0x73, 0x2d, 0x63, 0x6f, 0x6e, 0x74, 0x72, 0x6f, 0x6c, 0x2d, 0x61, 0x6c, 0x6c, 0x6f, 0x77, 0x2d, 0x6f, 0x72, 0x69, 0x67, 0x69, 0x6e],
    []⟩,
   -- 21 age
   ⟨octets [0x61, 0x67, 0x65],
    []⟩,
   -- 22 allow
   ⟨octets [0x61, 0x6c, 0x6c, 0x6f, 0x77],
    []⟩,
   -- 23 authorization
   ⟨octets [0x61, 0x75, 0x74, 0x68, 0x6f, 0x72, 0x69, 0x7a, 0x61, 0x74, 0x69, 0x6f, 0x6e],
    []⟩,
   -- 24 cache-control
   ⟨octets [0x63, 0x61, 0x63, 0x68, 0x65, 0x2d, 0x63, 0x6f, 0x6e, 0x74, 0x72, 0x6f, 0x6c],
    []⟩,
   -- 25 content-disposition
   ⟨octets [0x63, 0x6f, 0x6e, 0x74, 0x65, 0x6e, 0x74, 0x2d, 0x64, 0x69, 0x73, 0x70, 0x6f, 0x73, 0x69, 0x74, 0x69, 0x6f, 0x6e],
    []⟩,
   -- 26 content-encoding
   ⟨octets [0x63, 0x6f, 0x6e, 0x74, 0x65, 0x6e, 0x74, 0x2d, 0x65, 0x6e, 0x63, 0x6f, 0x64, 0x69, 0x6e, 0x67],
    []⟩,
   -- 27 content-language
   ⟨octets [0x63, 0x6f, 0x6e, 0x74, 0x65, 0x6e, 0x74, 0x2d, 0x6c, 0x61, 0x6e, 0x67, 0x75, 0x61, 0x67, 0x65],
    []⟩,
   -- 28 content-length
   ⟨octets [0x63, 0x6f, 0x6e, 0x74, 0x65, 0x6e, 0x74, 0x2d, 0x6c, 0x65, 0x6e, 0x67, 0x74, 0x68],
    []⟩,
   -- 29 content-location
   ⟨octets [0x63, 0x6f, 0x6e, 0x74, 0x65, 0x6e, 0x74, 0x2d, 0x6c, 0x6f, 0x63, 0x61, 0x74, 0x69, 0x6f, 0x6e],
    []⟩,
   -- 30 content-range
   ⟨octets [0x63, 0x6f, 0x6e, 0x74, 0x65, 0x6e, 0x74, 0x2d, 0x72, 0x61, 0x6e, 0x67, 0x65],
    []⟩,
   -- 31 content-type
   ⟨octets [0x63, 0x6f, 0x6e, 0x74, 0x65, 0x6e, 0x74, 0x2d, 0x74, 0x79, 0x70, 0x65],
    []⟩,
   -- 32 cookie
   ⟨octets [0x63, 0x6f, 0x6f, 0x6b, 0x69, 0x65],
    []⟩]

/-- `STATIC`, indices 33 to 48. -/
def static33 : List Entry :=
  [-- 33 date
   ⟨octets [0x64, 0x61, 0x74, 0x65],
    []⟩,
   -- 34 etag
   ⟨octets [0x65, 0x74, 0x61, 0x67],
    []⟩,
   -- 35 expect
   ⟨octets [0x65, 0x78, 0x70, 0x65, 0x63, 0x74],
    []⟩,
   -- 36 expires
   ⟨octets [0x65, 0x78, 0x70, 0x69, 0x72, 0x65, 0x73],
    []⟩,
   -- 37 from
   ⟨octets [0x66, 0x72, 0x6f, 0x6d],
    []⟩,
   -- 38 host
   ⟨octets [0x68, 0x6f, 0x73, 0x74],
    []⟩,
   -- 39 if-match
   ⟨octets [0x69, 0x66, 0x2d, 0x6d, 0x61, 0x74, 0x63, 0x68],
    []⟩,
   -- 40 if-modified-since
   ⟨octets [0x69, 0x66, 0x2d, 0x6d, 0x6f, 0x64, 0x69, 0x66, 0x69, 0x65, 0x64, 0x2d, 0x73, 0x69, 0x6e, 0x63, 0x65],
    []⟩,
   -- 41 if-none-match
   ⟨octets [0x69, 0x66, 0x2d, 0x6e, 0x6f, 0x6e, 0x65, 0x2d, 0x6d, 0x61, 0x74, 0x63, 0x68],
    []⟩,
   -- 42 if-range
   ⟨octets [0x69, 0x66, 0x2d, 0x72, 0x61, 0x6e, 0x67, 0x65],
    []⟩,
   -- 43 if-unmodified-since
   ⟨octets [0x69, 0x66, 0x2d, 0x75, 0x6e, 0x6d, 0x6f, 0x64, 0x69, 0x66, 0x69, 0x65, 0x64, 0x2d, 0x73, 0x69, 0x6e, 0x63, 0x65],
    []⟩,
   -- 44 last-modified
   ⟨octets [0x6c, 0x61, 0x73, 0x74, 0x2d, 0x6d, 0x6f, 0x64, 0x69, 0x66, 0x69, 0x65, 0x64],
    []⟩,
   -- 45 link
   ⟨octets [0x6c, 0x69, 0x6e, 0x6b],
    []⟩,
   -- 46 location
   ⟨octets [0x6c, 0x6f, 0x63, 0x61, 0x74, 0x69, 0x6f, 0x6e],
    []⟩,
   -- 47 max-forwards
   ⟨octets [0x6d, 0x61, 0x78, 0x2d, 0x66, 0x6f, 0x72, 0x77, 0x61, 0x72, 0x64, 0x73],
    []⟩,
   -- 48 proxy-authenticate
   ⟨octets [0x70, 0x72, 0x6f, 0x78, 0x79, 0x2d, 0x61, 0x75, 0x74, 0x68, 0x65, 0x6e, 0x74, 0x69, 0x63, 0x61, 0x74, 0x65],
    []⟩]

/-- `STATIC`, indices 49 to 61. -/
def static49 : List Entry :=
  [-- 49 proxy-authorization
   ⟨octets [0x70, 0x72, 0x6f, 0x78, 0x79, 0x2d, 0x61, 0x75, 0x74, 0x68, 0x6f, 0x72, 0x69, 0x7a, 0x61, 0x74, 0x69, 0x6f, 0x6e],
    []⟩,
   -- 50 range
   ⟨octets [0x72, 0x61, 0x6e, 0x67, 0x65],
    []⟩,
   -- 51 referer
   ⟨octets [0x72, 0x65, 0x66, 0x65, 0x72, 0x65, 0x72],
    []⟩,
   -- 52 refresh
   ⟨octets [0x72, 0x65, 0x66, 0x72, 0x65, 0x73, 0x68],
    []⟩,
   -- 53 retry-after
   ⟨octets [0x72, 0x65, 0x74, 0x72, 0x79, 0x2d, 0x61, 0x66, 0x74, 0x65, 0x72],
    []⟩,
   -- 54 server
   ⟨octets [0x73, 0x65, 0x72, 0x76, 0x65, 0x72],
    []⟩,
   -- 55 set-cookie
   ⟨octets [0x73, 0x65, 0x74, 0x2d, 0x63, 0x6f, 0x6f, 0x6b, 0x69, 0x65],
    []⟩,
   -- 56 strict-transport-security
   ⟨octets [0x73, 0x74, 0x72, 0x69, 0x63, 0x74, 0x2d, 0x74, 0x72, 0x61, 0x6e, 0x73, 0x70, 0x6f, 0x72, 0x74, 0x2d, 0x73, 0x65, 0x63, 0x75, 0x72, 0x69, 0x74, 0x79],
    []⟩,
   -- 57 transfer-encoding
   ⟨octets [0x74, 0x72, 0x61, 0x6e, 0x73, 0x66, 0x65, 0x72, 0x2d, 0x65, 0x6e, 0x63, 0x6f, 0x64, 0x69, 0x6e, 0x67],
    []⟩,
   -- 58 user-agent
   ⟨octets [0x75, 0x73, 0x65, 0x72, 0x2d, 0x61, 0x67, 0x65, 0x6e, 0x74],
    []⟩,
   -- 59 vary
   ⟨octets [0x76, 0x61, 0x72, 0x79],
    []⟩,
   -- 60 via
   ⟨octets [0x76, 0x69, 0x61],
    []⟩,
   -- 61 www-authenticate
   ⟨octets [0x77, 0x77, 0x77, 0x2d, 0x61, 0x75, 0x74, 0x68, 0x65, 0x6e, 0x74, 0x69, 0x63, 0x61, 0x74, 0x65],
    []⟩]

/-- `STATIC[1]` to `STATIC[61]`, in order (44_tables R206). -/
def staticTable : List Entry :=
  static1 ++ static17 ++ static33 ++ static49

end Sys2Proof.Machine
end

