-- ==== Sys2Proof/Machine/Huffman.lean ====
section
/-!
DEFINITION. The HUFF unit: the bit reader and its window (42_huffman R175, 20_memory R65, R66), the decode trie
(R165 to R174), the walk, one turn of the decode loop and `HUFF.DEC` (R176), and `HUFF.ENC` (47_encoder R294).
-/

namespace Sys2Proof.Machine

/-! ### The bit reader -/

/-- Bit number `q` of a payload, most significant bit of the first octet first (20_memory R65, 42_huffman R175);
past the end it is zero, the zero fill of the window (20_memory R66). -/
def bitAt (S : Octets) (q : Nat) : Bool := (S.getD (q / 8) 0).getLsbD (7 - q % 8)

/-- `bits_available()` at a bit position (42_huffman R175). -/
def bitsAvailable (S : Octets) (bitpos : Nat) : Nat := 8 * S.length - bitpos

/-- `r`, the number of real bits a 32-bit peek returns (42_huffman R175). -/
def bitsRead (S : Octets) (bitpos : Nat) : Nat := min 32 (bitsAvailable S bitpos)

/-- `W`, the window at a bit position: 32 bits, left-aligned, zero-filled (20_memory R66, 42_huffman R175). -/
def window (S : Octets) (bitpos : Nat) : BitVec 32 :=
  BitVec.ofNat 32 ((List.range 32).foldl (fun w j => 2 * w + (bitAt S (bitpos + j)).toNat) 0)

/-- `W[31-s : 24-s]`, the octet of the window at stride `s` (42_huffman R176 line 6). -/
def windowOctet (W : BitVec 32) (s : Nat) : Nat := (W.extractLsb' (24 - s) 8).toNat

/-! ### The trie -/

/-- A node of `TRIE`, named by the whole octets that lead to it: how many they are, and the number they form, first
octet most significant (42_huffman R170; node numbers are not observable, R171, notes/assumptions/22.md). -/
structure TrieNode where
  depth : Nat
  leading : Nat
deriving DecidableEq, Repr, Inhabited

/-- The root, named by the empty sequence (42_huffman R170). -/
def trieRoot : TrieNode := ⟨0, 0⟩

/-- What a slot of a node holds (42_huffman R166). -/
inductive Slot where
  | empty
  | leaf (sym len : Nat)
  | child (node : TrieNode)
deriving DecidableEq, Repr

/-- A code of `c.len` bits ends inside the stride that follows `bits` whole bits of leading octets, and the leading
octets and the slot number `w` (together `bits + 8` bits) begin with it (42_huffman R170, R173 (b)). -/
def codeEndsIn (bits w : Nat) (c : HuffCode) : Bool :=
  bits < c.len && c.len ≤ bits + 8 && w >>> (bits + 8 - c.len) == c.code

/-- The leading octets and the slot number `w` are a proper prefix of the code, which goes on past this stride
(42_huffman R166, R170). -/
def codeGoesThrough (bits w : Nat) (c : HuffCode) : Bool :=
  bits + 8 < c.len && c.code >>> (c.len - (bits + 8)) == w

/-- The rows from which the trie is built: symbols 0 to 255; EOS is left out (42_huffman R170, R174). -/
def trieRows : List HuffCode := huffCodeTable.take eosSymbol

/-- `node[idx]`: the slot of `TRIE` (42_huffman R170 read as a function of the node's name and the slot number). -/
def slotAt (node : TrieNode) (idx : Nat) : Slot :=
  let bits := 8 * node.depth
  let w := node.leading * 256 + idx
  match trieRows.findIdx? (codeEndsIn bits w) with
  | some sym => .leaf sym (huffCodeOf sym).len
  | none => if trieRows.any (codeGoesThrough bits w) then .child ⟨node.depth + 1, w⟩ else .empty

/-- How a walk over the strides ends (42_huffman R176 lines 5 to 11). -/
inductive WalkEnd where
  /-- An empty slot was reached (line 8). -/
  | empty
  /-- A leaf was reached (line 10). -/
  | leaf (sym len : Nat)
  /-- Four strides and no leaf (line 12); no window leads here (R173 (a)). -/
  | exhausted
deriving DecidableEq, Repr

/-- The walk from a node over the remaining strides of the window (42_huffman R176 lines 5 to 9). -/
def walkFrom (W : BitVec 32) : List Nat → TrieNode → WalkEnd
  | [], _ => .exhausted
  | s :: more, node =>
    match slotAt node (windowOctet W s) with
    | .empty => .empty
    | .leaf sym len => .leaf sym len
    | .child next => walkFrom W more next

/-- The walk of a window from the root over the strides 0, 8, 16, 24 (42_huffman R176 lines 4 and 5). -/
def walk (W : BitVec 32) : WalkEnd := walkFrom W [0, 8, 16, 24] trieRoot

/-! ### HUFF.DEC -/

/-- The working registers of `HUFF.DEC` that live from one code to the next: the payload `S`, `bitpos`, and the
octets decoded so far, `out` (10_state R30, 42_huffman R176). -/
structure HuffRegs where
  payload : Octets
  bitpos : Nat
  text : Octets
deriving DecidableEq, Repr, Inhabited

/-- What one turn of the loop of `HUFF.DEC` leads to. -/
inductive HuffTurn where
  /-- A symbol was emitted; the loop goes on with these registers. -/
  | more (regs : HuffRegs)
  /-- The loop is left and `out` returned (42_huffman R176 lines 2, 13, 15). -/
  | finished (text : Octets)
  /-- `raise HuffmanDecodeFailure` (42_huffman R176 lines 8, 14). -/
  | failed
deriving DecidableEq, Repr

/-- The registers at the start of `HUFF.DEC(S)` (42_huffman R176 line 1). -/
def huffStart (S : Octets) : HuffRegs := ⟨S, 0, []⟩

/-- No valid leaf was found: end-of-stream padding when fewer than 8 bits are left, else a failure (42_huffman R176
lines 12 to 14). -/
def huffUnmatched (r : HuffRegs) : HuffTurn :=
  if bitsAvailable r.payload r.bitpos < 8 then .finished r.text else .failed

/-- A leaf was reached: its symbol is emitted and its bits consumed when the whole code lies inside the payload
(42_huffman R176 line 10, R177), else it is no match. -/
def huffLeaf (sym len : Nat) (r : HuffRegs) : HuffTurn :=
  if len ≤ bitsRead r.payload r.bitpos then
    .more { r with bitpos := r.bitpos + len, text := r.text ++ [BitVec.ofNat 8 sym] }
  else huffUnmatched r

/-- The loop test: fewer than 5 bits are left, so no code can start (42_huffman R176 line 2). -/
def huffAtEnd (r : HuffRegs) : Bool := bitsAvailable r.payload r.bitpos < 5

/-- One turn of the loop of `HUFF.DEC` (42_huffman R176 lines 2 to 14). -/
def huffTurn (r : HuffRegs) : HuffTurn :=
  if huffAtEnd r then .finished r.text
  else
    match walk (window r.payload r.bitpos) with
    | .empty => .failed
    | .leaf sym len => huffLeaf sym len r
    | .exhausted => huffUnmatched r

/-- The loop of `HUFF.DEC`, bounded by a number of turns (notes/assumptions/24.md). -/
def huffLoop : Nat → HuffRegs → Except ErrCode Octets
  | 0, _ => .error .huffmanDecodeFailure
  | turns + 1, r =>
    match huffTurn r with
    | .more r' => huffLoop turns r'
    | .finished text => .ok text
    | .failed => .error .huffmanDecodeFailure

/-- `HUFF.DEC(S)` (42_huffman R176). Every turn but the last consumes at least five bits (R180), so the bound on the
turns is never met. -/
def huffDec (S : Octets) : Except ErrCode Octets := huffLoop (8 * S.length / 5 + 1) (huffStart S)

/-! ### HUFF.ENC -/

/-- The bits of a code, most significant first (47_encoder R294 line 2). -/
def codeBits (c : HuffCode) : List Bool := (List.range c.len).map fun j => c.code.testBit (c.len - 1 - j)

/-- The octet whose bits, bit 7 first, are the given ones. -/
def octetOfBits (b7 b6 b5 b4 b3 b2 b1 b0 : Bool) : Octet :=
  BitVec.ofNat 8 (128 * b7.toNat + 64 * b6.toNat + 32 * b5.toNat + 16 * b4.toNat
    + 8 * b3.toNat + 4 * b2.toNat + 2 * b1.toNat + b0.toNat)

/-- A bit string cut into octets, its first bit bit 7 of the first octet (47_encoder R294 line 5). -/
def packBits : List Bool → Octets
  | b7 :: b6 :: b5 :: b4 :: b3 :: b2 :: b1 :: b0 :: rest =>
    octetOfBits b7 b6 b5 b4 b3 b2 b1 b0 :: packBits rest
  | _ => []

/-- A bit string padded with one-bits, the top bits of the EOS code, up to an octet boundary (47_encoder R294 lines 3
and 4). -/
def padBits (acc : List Bool) : List Bool := acc ++ List.replicate ((8 - acc.length % 8) % 8) true

/-- `HUFF.ENC(s)` (47_encoder R294). -/
def huffEnc (s : Octets) : Octets := packBits (padBits (s.flatMap fun x => codeBits (huffCodeOf x.toNat)))

end Sys2Proof.Machine
end

