-- ==== Sys2Proof/Syntax.lean ====
section
/-!
DEFINITION. The instructions: one constructor for every row of spec/opcode_table.json (the five representations of
30_encoding R91, the two string-literal heads of R97, the 257 Huffman codes of 43_huffman_table R201), the operand
forms they carry (R95), and the host's commands (46_commands R265, 47_encoder R297), which have no encoding (R105).
-/

namespace Sys2Proof

/-- A string literal as it stands on the wire (30_encoding R97): the flag H and the payload octets. The string it
stands for is the payload itself when H = 0 and `HUFF.DEC` of it when H = 1 (41_string R151). -/
structure StrLit where
  huffman : Bool
  payload : Octets
deriving DecidableEq, Repr, Inhabited

/-- The name operand of a literal representation (30_encoding R93): an index into the joint table (format LI, the
index not 0), or a string literal of its own (format LN, written with index 0). -/
inductive NameRef where
  | byIndex (index : Nat)
  | literal (lit : StrLit)
deriving DecidableEq, Repr, Inhabited

/-- The prefix-integer and string limits the decoders obey: the registers `INT_VALUE_MAX`, `INT_ENC_LEN_MAX` and
`STR_LEN_MAX` (10_state R25). -/
structure Limits where
  intValueMax : Nat
  intEncLenMax : Nat
  strLenMax : Nat
deriving DecidableEq, Repr, Inhabited

/-- The unit that reads a word. The words of the three units overlap (an octet `0x80` heads an `INDEXED` at a
representation boundary and a Huffman-coded string at a literal), so a word is decoded for a unit. -/
inductive DecodeUnit where
  /-- DISP: a representation boundary of a block (45_dispatch R237). -/
  | representation
  /-- STR: the first octet of a string literal (41_string R151). -/
  | string
  /-- HUFF: a code position of a Huffman-coded payload (42_huffman R176). -/
  | huffman
deriving DecidableEq, Repr, Inhabited

/-- The instructions, one constructor per row of the opcode table. -/
inductive Instr where
  /-- `INDEXED`, 45_dispatch R238. -/
  | indexed (index : Nat)
  /-- `LITINC`, 45_dispatch R240. -/
  | litinc (name : NameRef) (value : StrLit)
  /-- `SIZEUPD`, 45_dispatch R244. -/
  | sizeupd (new : Nat)
  /-- `LITNEVER`, 45_dispatch R242. -/
  | litnever (name : NameRef) (value : StrLit)
  /-- `LITNOIDX`, 45_dispatch R241. -/
  | litnoidx (name : NameRef) (value : StrLit)
  /-- `STR.RAW`, 41_string R151 with H = 0; the operand is the payload. -/
  | strRaw (payload : Octets)
  /-- `STR.HUFF`, 41_string R151 with H = 1; the operand is the payload as it stands on the wire. -/
  | strHuff (payload : Octets)
  -- The rows HUFF.0 to HUFF.255 and HUFF.EOS, 43_huffman_table R201.
  | huff0
  | huff1
  | huff2
  | huff3
  | huff4
  | huff5
  | huff6
  | huff7
  | huff8
  | huff9
  | huff10
  | huff11
  | huff12
  | huff13
  | huff14
  | huff15
  | huff16
  | huff17
  | huff18
  | huff19
  | huff20
  | huff21
  | huff22
  | huff23
  | huff24
  | huff25
  | huff26
  | huff27
  | huff28
  | huff29
  | huff30
  | huff31
  | huff32
  | huff33
  | huff34
  | huff35
  | huff36
  | huff37
  | huff38
  | huff39
  | huff40
  | huff41
  | huff42
  | huff43
  | huff44
  | huff45
  | huff46
  | huff47
  | huff48
  | huff49
  | huff50
  | huff51
  | huff52
  | huff53
  | huff54
  | huff55
  | huff56
  | huff57
  | huff58
  | huff59
  | huff60
  | huff61
  | huff62
  | huff63
  | huff64
  | huff65
  | huff66
  | huff67
  | huff68
  | huff69
  | huff70
  | huff71
  | huff72
  | huff73
  | huff74
  | huff75
  | huff76
  | huff77
  | huff78
  | huff79
  | huff80
  | huff81
  | huff82
  | huff83
  | huff84
  | huff85
  | huff86
  | huff87
  | huff88
  | huff89
  | huff90
  | huff91
  | huff92
  | huff93
  | huff94
  | huff95
  | huff96
  | huff97
  | huff98
  | huff99
  | huff100
  | huff101
  | huff102
  | huff103
  | huff104
  | huff105
  | huff106
  | huff107
  | huff108
  | huff109
  | huff110
  | huff111
  | huff112
  | huff113
  | huff114
  | huff115
  | huff116
  | huff117
  | huff118
  | huff119
  | huff120
  | huff121
  | huff122
  | huff123
  | huff124
  | huff125
  | huff126
  | huff127
  | huff128
  | huff129
  | huff130
  | huff131
  | huff132
  | huff133
  | huff134
  | huff135
  | huff136
  | huff137
  | huff138
  | huff139
  | huff140
  | huff141
  | huff142
  | huff143
  | huff144
  | huff145
  | huff146
  | huff147
  | huff148
  | huff149
  | huff150
  | huff151
  | huff152
  | huff153
  | huff154
  | huff155
  | huff156
  | huff157
  | huff158
  | huff159
  | huff160
  | huff161
  | huff162
  | huff163
  | huff164
  | huff165
  | huff166
  | huff167
  | huff168
  | huff169
  | huff170
  | huff171
  | huff172
  | huff173
  | huff174
  | huff175
  | huff176
  | huff177
  | huff178
  | huff179
  | huff180
  | huff181
  | huff182
  | huff183
  | huff184
  | huff185
  | huff186
  | huff187
  | huff188
  | huff189
  | huff190
  | huff191
  | huff192
  | huff193
  | huff194
  | huff195
  | huff196
  | huff197
  | huff198
  | huff199
  | huff200
  | huff201
  | huff202
  | huff203
  | huff204
  | huff205
  | huff206
  | huff207
  | huff208
  | huff209
  | huff210
  | huff211
  | huff212
  | huff213
  | huff214
  | huff215
  | huff216
  | huff217
  | huff218
  | huff219
  | huff220
  | huff221
  | huff222
  | huff223
  | huff224
  | huff225
  | huff226
  | huff227
  | huff228
  | huff229
  | huff230
  | huff231
  | huff232
  | huff233
  | huff234
  | huff235
  | huff236
  | huff237
  | huff238
  | huff239
  | huff240
  | huff241
  | huff242
  | huff243
  | huff244
  | huff245
  | huff246
  | huff247
  | huff248
  | huff249
  | huff250
  | huff251
  | huff252
  | huff253
  | huff254
  | huff255
  | huffEOS
deriving DecidableEq, Repr

/-- The three literal representations (45_dispatch R240, R241, R242). -/
inductive LiteralKind where
  /-- `LITINC`. -/
  | incremental
  /-- `LITNEVER`. -/
  | never
  /-- `LITNOIDX`. -/
  | without
deriving DecidableEq, Repr, Inhabited

/-- What the rows of the opcode table have in common: the format of 30_encoding R90 and the operands, or the symbol
of a Huffman code. -/
inductive Form where
  /-- Format I. -/
  | indexed (index : Nat)
  /-- Formats LI and LN. -/
  | literal (kind : LiteralKind) (name : NameRef) (value : StrLit)
  /-- Format U. -/
  | sizeUpdate (new : Nat)
  /-- Format S. -/
  | string (lit : StrLit)
  /-- Format HUFF, by symbol number, 256 for EOS. -/
  | code (sym : Nat)
deriving DecidableEq, Repr

/-- The form of an instruction. -/
def Instr.form : Instr → Form
  | .indexed index => .indexed index
  | .litinc name value => .literal .incremental name value
  | .sizeupd new => .sizeUpdate new
  | .litnever name value => .literal .never name value
  | .litnoidx name value => .literal .without name value
  | .strRaw payload => .string ⟨false, payload⟩
  | .strHuff payload => .string ⟨true, payload⟩
  | .huff0 => .code 0
  | .huff1 => .code 1
  | .huff2 => .code 2
  | .huff3 => .code 3
  | .huff4 => .code 4
  | .huff5 => .code 5
  | .huff6 => .code 6
  | .huff7 => .code 7
  | .huff8 => .code 8
  | .huff9 => .code 9
  | .huff10 => .code 10
  | .huff11 => .code 11
  | .huff12 => .code 12
  | .huff13 => .code 13
  | .huff14 => .code 14
  | .huff15 => .code 15
  | .huff16 => .code 16
  | .huff17 => .code 17
  | .huff18 => .code 18
  | .huff19 => .code 19
  | .huff20 => .code 20
  | .huff21 => .code 21
  | .huff22 => .code 22
  | .huff23 => .code 23
  | .huff24 => .code 24
  | .huff25 => .code 25
  | .huff26 => .code 26
  | .huff27 => .code 27
  | .huff28 => .code 28
  | .huff29 => .code 29
  | .huff30 => .code 30
  | .huff31 => .code 31
  | .huff32 => .code 32
  | .huff33 => .code 33
  | .huff34 => .code 34
  | .huff35 => .code 35
  | .huff36 => .code 36
  | .huff37 => .code 37
  | .huff38 => .code 38
  | .huff39 => .code 39
  | .huff40 => .code 40
  | .huff41 => .code 41
  | .huff42 => .code 42
  | .huff43 => .code 43
  | .huff44 => .code 44
  | .huff45 => .code 45
  | .huff46 => .code 46
  | .huff47 => .code 47
  | .huff48 => .code 48
  | .huff49 => .code 49
  | .huff50 => .code 50
  | .huff51 => .code 51
  | .huff52 => .code 52
  | .huff53 => .code 53
  | .huff54 => .code 54
  | .huff55 => .code 55
  | .huff56 => .code 56
  | .huff57 => .code 57
  | .huff58 => .code 58
  | .huff59 => .code 59
  | .huff60 => .code 60
  | .huff61 => .code 61
  | .huff62 => .code 62
  | .huff63 => .code 63
  | .huff64 => .code 64
  | .huff65 => .code 65
  | .huff66 => .code 66
  | .huff67 => .code 67
  | .huff68 => .code 68
  | .huff69 => .code 69
  | .huff70 => .code 70
  | .huff71 => .code 71
  | .huff72 => .code 72
  | .huff73 => .code 73
  | .huff74 => .code 74
  | .huff75 => .code 75
  | .huff76 => .code 76
  | .huff77 => .code 77
  | .huff78 => .code 78
  | .huff79 => .code 79
  | .huff80 => .code 80
  | .huff81 => .code 81
  | .huff82 => .code 82
  | .huff83 => .code 83
  | .huff84 => .code 84
  | .huff85 => .code 85
  | .huff86 => .code 86
  | .huff87 => .code 87
  | .huff88 => .code 88
  | .huff89 => .code 89
  | .huff90 => .code 90
  | .huff91 => .code 91
  | .huff92 => .code 92
  | .huff93 => .code 93
  | .huff94 => .code 94
  | .huff95 => .code 95
  | .huff96 => .code 96
  | .huff97 => .code 97
  | .huff98 => .code 98
  | .huff99 => .code 99
  | .huff100 => .code 100
  | .huff101 => .code 101
  | .huff102 => .code 102
  | .huff103 => .code 103
  | .huff104 => .code 104
  | .huff105 => .code 105
  | .huff106 => .code 106
  | .huff107 => .code 107
  | .huff108 => .code 108
  | .huff109 => .code 109
  | .huff110 => .code 110
  | .huff111 => .code 111
  | .huff112 => .code 112
  | .huff113 => .code 113
  | .huff114 => .code 114
  | .huff115 => .code 115
  | .huff116 => .code 116
  | .huff117 => .code 117
  | .huff118 => .code 118
  | .huff119 => .code 119
  | .huff120 => .code 120
  | .huff121 => .code 121
  | .huff122 => .code 122
  | .huff123 => .code 123
  | .huff124 => .code 124
  | .huff125 => .code 125
  | .huff126 => .code 126
  | .huff127 => .code 127
  | .huff128 => .code 128
  | .huff129 => .code 129
  | .huff130 => .code 130
  | .huff131 => .code 131
  | .huff132 => .code 132
  | .huff133 => .code 133
  | .huff134 => .code 134
  | .huff135 => .code 135
  | .huff136 => .code 136
  | .huff137 => .code 137
  | .huff138 => .code 138
  | .huff139 => .code 139
  | .huff140 => .code 140
  | .huff141 => .code 141
  | .huff142 => .code 142
  | .huff143 => .code 143
  | .huff144 => .code 144
  | .huff145 => .code 145
  | .huff146 => .code 146
  | .huff147 => .code 147
  | .huff148 => .code 148
  | .huff149 => .code 149
  | .huff150 => .code 150
  | .huff151 => .code 151
  | .huff152 => .code 152
  | .huff153 => .code 153
  | .huff154 => .code 154
  | .huff155 => .code 155
  | .huff156 => .code 156
  | .huff157 => .code 157
  | .huff158 => .code 158
  | .huff159 => .code 159
  | .huff160 => .code 160
  | .huff161 => .code 161
  | .huff162 => .code 162
  | .huff163 => .code 163
  | .huff164 => .code 164
  | .huff165 => .code 165
  | .huff166 => .code 166
  | .huff167 => .code 167
  | .huff168 => .code 168
  | .huff169 => .code 169
  | .huff170 => .code 170
  | .huff171 => .code 171
  | .huff172 => .code 172
  | .huff173 => .code 173
  | .huff174 => .code 174
  | .huff175 => .code 175
  | .huff176 => .code 176
  | .huff177 => .code 177
  | .huff178 => .code 178
  | .huff179 => .code 179
  | .huff180 => .code 180
  | .huff181 => .code 181
  | .huff182 => .code 182
  | .huff183 => .code 183
  | .huff184 => .code 184
  | .huff185 => .code 185
  | .huff186 => .code 186
  | .huff187 => .code 187
  | .huff188 => .code 188
  | .huff189 => .code 189
  | .huff190 => .code 190
  | .huff191 => .code 191
  | .huff192 => .code 192
  | .huff193 => .code 193
  | .huff194 => .code 194
  | .huff195 => .code 195
  | .huff196 => .code 196
  | .huff197 => .code 197
  | .huff198 => .code 198
  | .huff199 => .code 199
  | .huff200 => .code 200
  | .huff201 => .code 201
  | .huff202 => .code 202
  | .huff203 => .code 203
  | .huff204 => .code 204
  | .huff205 => .code 205
  | .huff206 => .code 206
  | .huff207 => .code 207
  | .huff208 => .code 208
  | .huff209 => .code 209
  | .huff210 => .code 210
  | .huff211 => .code 211
  | .huff212 => .code 212
  | .huff213 => .code 213
  | .huff214 => .code 214
  | .huff215 => .code 215
  | .huff216 => .code 216
  | .huff217 => .code 217
  | .huff218 => .code 218
  | .huff219 => .code 219
  | .huff220 => .code 220
  | .huff221 => .code 221
  | .huff222 => .code 222
  | .huff223 => .code 223
  | .huff224 => .code 224
  | .huff225 => .code 225
  | .huff226 => .code 226
  | .huff227 => .code 227
  | .huff228 => .code 228
  | .huff229 => .code 229
  | .huff230 => .code 230
  | .huff231 => .code 231
  | .huff232 => .code 232
  | .huff233 => .code 233
  | .huff234 => .code 234
  | .huff235 => .code 235
  | .huff236 => .code 236
  | .huff237 => .code 237
  | .huff238 => .code 238
  | .huff239 => .code 239
  | .huff240 => .code 240
  | .huff241 => .code 241
  | .huff242 => .code 242
  | .huff243 => .code 243
  | .huff244 => .code 244
  | .huff245 => .code 245
  | .huff246 => .code 246
  | .huff247 => .code 247
  | .huff248 => .code 248
  | .huff249 => .code 249
  | .huff250 => .code 250
  | .huff251 => .code 251
  | .huff252 => .code 252
  | .huff253 => .code 253
  | .huff254 => .code 254
  | .huff255 => .code 255
  | .huffEOS => .code 256

/-- The policy of the encoder's field rule (47_encoder R295, R296). -/
inductive EncodePolicy where
  | incremental
  | notIndexed
deriving DecidableEq, Repr, Inhabited

/-- The commands of the host: of a decoder context and the stand-alone primitives (46_commands R265), and of an
encoder context (47_encoder R297). `LEN` is the length of the octet string a command brings. -/
inductive Command where
  /-- `DEC.INIT(max)`, R266. -/
  | decInit (max : Nat)
  /-- `DEC.DECODE(B, LEN)`, R267. -/
  | decDecode (block : Octets)
  /-- `DEC.SET_MAX_SIZE(n)`, R268. -/
  | decSetMaxSize (n : Nat)
  /-- `DEC.SET_INT_VALUE_MAX(n)`, R270. -/
  | decSetIntValueMax (n : Nat)
  /-- `DEC.SET_INT_ENC_LEN_MAX(n)`, R271. -/
  | decSetIntEncLenMax (n : Nat)
  /-- `DEC.SET_STR_LEN_MAX(n)`, R272. -/
  | decSetStrLenMax (n : Nat)
  /-- `INT.DEC(B, LEN, N)`, R274. -/
  | intDec (buffer : Octets) (width : Nat)
  /-- `INT.ENC(v, N, flags)`, R275. -/
  | intEnc (value : Nat) (width : Nat) (flags : Octet)
  /-- `HUFF.DEC(S)`, R276. -/
  | huffDec (payload : Octets)
  /-- `HUFF.ENC(s)`, R277. -/
  | huffEnc (text : Octets)
  /-- `ENC.INIT(max)`, R290. -/
  | encInit (max : Nat)
  /-- `ENC.SET_MAX_SIZE(n)`, R291. -/
  | encSetMaxSize (n : Nat)
  /-- `ENC.INDEXED(header, huffman)`, R296. -/
  | encIndexed (header : Header) (huffman : Bool)
  /-- `ENC.NOINDEX(header, huffman)`, R296. -/
  | encNoIndex (header : Header) (huffman : Bool)
  /-- `ENC.ENCODE(headers)`, R296. -/
  | encEncode (headers : List Header)
deriving DecidableEq, Repr

/-- The result and the status a command returns to the host (46_commands R265, R279). -/
inductive Reply where
  /-- Status `OK`, no result. -/
  | ok
  /-- Status `OK` and the header list `OUT` of a `DEC.DECODE` (R267). -/
  | headers (out : List Header)
  /-- The triple `(p', pfx, n)` of an `INT.DEC` (R274). -/
  | integer (next : Nat) (flagBits : Octet) (value : Nat)
  /-- An octet string: of `INT.ENC`, `HUFF.DEC`, `HUFF.ENC` or an encode command. -/
  | octets (result : Octets)
  /-- The pair `(p', s)` of a string literal decoded by the STR unit on its own (41_string R150). -/
  | string (next : Nat) (text : Octets)
  /-- An error code (60_exceptions R321). -/
  | error (code : ErrCode)
  /-- Status `Refused`: the command had no effect (46_commands R269, R279). -/
  | refused
deriving DecidableEq, Repr

end Sys2Proof
end

