-- ==== Sys2Proof/Machine/State.lean ====
section
/-!
DEFINITION. The machine's state: every register of the decoder context (10_state R20) and of the encoder context
(R36), the operands of the command in progress, the host's side of the interface, and the free-value counter; the
reset state (R39); and why a step can stop.
-/

namespace Sys2Proof.Machine

/-- Octet memory: (address, octet) pairs, addresses strictly rising, no entry equal to what an unlisted address reads
as (`Memory.unlisted` of Machine/Ops.lean). -/
abbrev Memory := List Host.Cell

/-- A dynamic table with its two size registers (10_state R21 to R23): `DT`, `CUR_SIZE`, `MAX_SIZE` of the decoder,
`E_DT`, `E_CUR_SIZE`, `E_MAX_SIZE` of the encoder (R36). The head of the list is `DT[1]`, the newest entry. -/
structure Table where
  entries : List Entry
  curSize : Nat
  maxSize : Nat
deriving DecidableEq, Repr, Inhabited

/-- The empty table with a given cap (10_state R39). -/
def emptyTable (max : Nat) : Table := ⟨[], 0, max⟩

/-- What the block is doing. The model's own field: a command is atomic to the host, but the commands that work
through octets take several steps here (00_scope R12; notes/assumptions/4.md). The working registers of a primitive
that takes several steps stand here, so they exist only while it runs and leave no trace after it (10_state R30, R31,
R37). -/
inductive Activity where
  /-- No command is in progress (60_exceptions R342). -/
  | idle
  /-- A `DEC.DECODE` run (45_dispatch R236): the next octets are a representation. -/
  | run
  /-- The STR unit on its own, at an offset of the input buffer: the operand `p` of `STR.DEC` before the literal is
  read, `q + len` after it (41_string R151; notes/assumptions/13.md). -/
  | string (offset : Nat)
  /-- A `HUFF.DEC` command with its working registers (42_huffman R176): the next bits are a Huffman code. -/
  | huffman (regs : HuffRegs)
deriving DecidableEq, Repr, Inhabited

/-- The state of the machine. -/
structure State where
  /-- The decoder context exists (70_reset R361). -/
  decLive : Bool
  /-- `DT`, `CUR_SIZE`, `MAX_SIZE` (10_state R21 to R23). -/
  table : Table
  /-- `PROTO_MAX` (10_state R24). -/
  protoMax : Nat
  /-- `INT_VALUE_MAX` (10_state R25). -/
  intValueMax : Nat
  /-- `INT_ENC_LEN_MAX` (10_state R25). -/
  intEncLenMax : Nat
  /-- `STR_LEN_MAX` (10_state R25). -/
  strLenMax : Nat
  /-- `PHASE` (10_state R26). -/
  phase : Phase
  /-- `POS`, the program counter (10_state R27). -/
  pos : Nat
  /-- `ERR` (10_state R28). -/
  err : ErrCode
  /-- `OUT`, in wire order (10_state R29). -/
  out : List Header
  /-- The encoder context exists (70_reset R361). -/
  encLive : Bool
  /-- `E_DT`, `E_CUR_SIZE`, `E_MAX_SIZE` (10_state R36). -/
  eTable : Table
  /-- `PENDING` (10_state R36). -/
  pending : Bool
  /-- What is in progress (the model's own). -/
  activity : Activity
  /-- `B`, the input buffer of the run (20_memory R61). -/
  block : Memory
  /-- `LEN`, the length of the input buffer (10_state R27). -/
  len : Nat
  /-- The commands the host has issued and the block has not taken, in order (the model's own; notes/assumptions/5.md). -/
  commands : List Command
  /-- The result and status of the last command that ended (46_commands R279; notes/assumptions/5.md). -/
  reply : Option Reply
  /-- How many times the free values of 60_exceptions R330 have been drawn (the model's own; notes/assumptions/6.md). -/
  freeCount : Nat
deriving DecidableEq, Repr

/-- The reasons a step can stop with a fault. There are none: every error of the spec is a status the block returns
to the host, after which it waits for the next command (60_exceptions R330, 46_commands R278), so a step of this
machine always has a next state. Safe. -/
inductive Fault : Type
deriving DecidableEq, Repr

/-- The reasons a step can be refused. -/
inductive Refusal where
  /-- Raised by `exec` alone, for an instruction that has no meaning yet. Safe. -/
  | notModelled (mnemonic : String)
deriving DecidableEq, Repr

/-- The machine after reset: both contexts just constructed, `DEC.INIT(max)` and `ENC.INIT(max)` (10_state R39,
70_reset R360), with the operand `Config.resetMaxSize` (notes/assumptions/1.md); no command in progress, none
issued (notes/assumptions/3.md, 18.md). -/
def State.reset : State where
  decLive := true
  table := emptyTable Config.resetMaxSize
  protoMax := Config.resetMaxSize
  intValueMax := Config.intValueMaxReset
  intEncLenMax := Config.intEncLenMaxReset
  strLenMax := Config.strLenMaxReset
  phase := .awaitingSizeUpdates
  pos := 0
  err := .ok
  out := []
  encLive := true
  eTable := emptyTable Config.resetMaxSize
  pending := false
  activity := .idle
  block := []
  len := 0
  commands := []
  reply := none
  freeCount := 0

end Sys2Proof.Machine
end

