-- ==== Sys2Proof/Machine/Ops.lean ====
section
/-!
DEFINITION. The named operations over memory, the tables and the registers: the input buffer (20_memory R61), `GET`
(44_tables R210), `DT.ADD` (R214), `DT.RESIZE` (R217), emitting a header (45_dispatch R238), the end of a
representation, raising an error (60_exceptions R330) and answering the host (46_commands R279).
-/

namespace Sys2Proof.Machine

/-! ### The input buffer -/

/-- What an address that is not listed reads as. DESIGN CHOICE, notes/assumptions/7.md: no rule reads an octet that
the host has not given (20_memory R62). -/
def Memory.unlisted : Octet := 0

/-- The octet at an address (20_memory R61). -/
def Memory.read (m : Memory) (a : Nat) : Octet :=
  match m.find? fun c => c.1 == a with
  | some c => c.2
  | none => Memory.unlisted

/-- Write one octet, keeping the canonical form. -/
def Memory.write : Memory → Nat → Octet → Memory
  | [], a, v => if v = Memory.unlisted then [] else [(a, v)]
  | c :: m, a, v =>
    if a < c.1 then (if v = Memory.unlisted then c :: m else (a, v) :: c :: m)
    else if a = c.1 then (if v = Memory.unlisted then m else (a, v) :: m)
    else c :: Memory.write m a v

/-- The canonical form: addresses strictly rising, no entry equal to what an unlisted address reads as. -/
abbrev Memory.wf (m : Memory) : Prop :=
  m.Pairwise (fun c d => c.1 < d.1) ∧ ∀ c ∈ m, c.2 ≠ Memory.unlisted

/-- Write octets at consecutive addresses from `a` upward. -/
def Memory.load (m : Memory) (a : Nat) : Octets → Memory
  | [] => m
  | v :: vs => Memory.load (m.write a v) (a + 1) vs

/-- The input buffer that holds a block from offset 0 (20_memory R61). -/
def Memory.ofBlock (block : Octets) : Memory := Memory.load [] 0 block

/-- `MemRead(p, n)`: the octets `B[a .. a + n)` in increasing offset order (00_scope R9). -/
def Memory.readRange (m : Memory) (a n : Nat) : Octets := (List.range n).map fun k => m.read (a + k)

/-- The octets of the block from offset `p` to its end, `B[p .. LEN)` (40_integer R130). -/
def State.octetsFrom (s : State) (p : Nat) : Octets := s.block.readRange p (s.len - p)

/-- The three limit registers (10_state R25). -/
def State.limits (s : State) : Limits := ⟨s.intValueMax, s.intEncLenMax, s.strLenMax⟩

/-! ### The tables -/

/-- The accounted size of an entry, `32 + |name| + |value|` (10_state R22). -/
def entrySize (e : Entry) : Nat := Config.entryOverhead + e.name.length + e.value.length

/-- The sum of the entry sizes of a table, what `CUR_SIZE` holds (10_state R22). -/
def sizeSum (entries : List Entry) : Nat := (entries.map entrySize).sum

/-- The invariant of a table: `CUR_SIZE` is the sum of the entry sizes and at most `MAX_SIZE` (10_state R22,
44_tables R219). -/
abbrev Table.wf (t : Table) : Prop := t.curSize = sizeSum t.entries ∧ t.curSize ≤ t.maxSize

/-- Remove the oldest entry, `DT[|DT|]`, and its size (44_tables R214 step 2, R217 step 2). -/
def Table.evictOldest (t : Table) : Table :=
  match t.entries.getLast? with
  | none => t
  | some e => { t with entries := t.entries.dropLast, curSize := t.curSize - entrySize e }

/-- Evict from the tail while the table is not empty and its size is too large (the loops of 44_tables R214 step 2
and R217 step 2); `bound` limits the turns, the number of entries being enough (notes/assumptions/21.md). -/
def Table.evictWhile (tooLarge : Nat → Bool) : Nat → Table → Table
  | 0, t => t
  | bound + 1, t =>
    if t.entries.isEmpty then t
    else if tooLarge t.curSize then Table.evictWhile tooLarge bound t.evictOldest
    else t

/-- `DT.ADD(name, value)` (44_tables R214): evict, abandon the insert of an entry larger than the cap, else prepend. -/
def Table.add (t : Table) (e : Entry) : Table :=
  let t' := t.evictWhile (fun cur => decide (t.maxSize < cur + entrySize e)) t.entries.length
  if t'.maxSize < entrySize e then t'
  else { t' with entries := e :: t'.entries, curSize := t'.curSize + entrySize e }

/-- `DT.RESIZE(new)` (44_tables R217): set the cap and evict down to it. -/
def Table.resize (t : Table) (new : Nat) : Table :=
  Table.evictWhile (fun cur => decide (new < cur)) t.entries.length { t with maxSize := new }

/-- `GET(i)` (44_tables R210): the entry at joint index `i`. -/
def Table.get (t : Table) (i : Nat) : Except ErrCode Entry :=
  if i = 0 ∨ Config.staticCount + t.entries.length < i then .error .invalidIndex
  else if i ≤ Config.staticCount then .ok (staticTable.getD (i - 1) default)
  else .ok (t.entries.getD (i - Config.staticCount - 1) default)

/-! ### Registers -/

/-- `OUT <- OUT ‖ [h]` (45_dispatch R238 step 4). -/
def State.emit (s : State) (h : Header) : State := { s with out := s.out ++ [h] }

/-- `DT.ADD` on the decoder's table (45_dispatch R239 step 5). -/
def State.insert (s : State) (e : Entry) : State := { s with table := s.table.add e }

/-- `POS <- p`, `p` being `count` octets past the representation's first (45_dispatch R238 step 5, R239 step 6, R244
step 5). It is done when the representation has been read, before its meaning runs: no rule reads `POS` in between, and
an error leaves any value in it (60_exceptions R330; notes/assumptions/4.md). -/
def State.advance (s : State) (count : Nat) : State := { s with pos := s.pos + count }

/-- The end of a field representation: `PHASE <- AwaitingField` (45_dispatch R238 step 5, R239 step 6). -/
def State.endField (s : State) : State := { s with phase := phaseAfterField }

/-- The end of a size update: `DT.RESIZE(new)`, the phase staying as it is (45_dispatch R244 steps 4, 5). -/
def State.endSizeUpdate (s : State) (new : Nat) : State := { s with table := s.table.resize new }

/-- The offset the STR unit has reached (41_string R151); 0 where it does not run, a state in which no step reads it
(notes/assumptions/13.md). -/
def State.stringOffset (s : State) : Nat :=
  match s.activity with
  | .string offset => offset
  | _ => 0

/-- The working registers of the `HUFF.DEC` in progress (42_huffman R176); those of an empty payload where none is, a
state in which no step reads them (notes/assumptions/14.md). -/
def State.huffRegs (s : State) : HuffRegs :=
  match s.activity with
  | .huffman regs => regs
  | _ => huffStart []

/-! ### Answering the host and raising -/

/-- The command in progress ends and its result goes to the host (46_commands R279). -/
def State.answer (s : State) (r : Reply) : State := { s with activity := .idle, reply := some r }

/-- `raise E` inside a `DEC.DECODE` (60_exceptions R330): the run stops, `ERR` takes the code, the host gets it, and
`DT`, `CUR_SIZE`, `MAX_SIZE`, `PHASE`, `POS` and `OUT` take any value: free values (notes/assumptions/6.md). There is
no handler and no return from it (R334): `DEC.INIT` alone leaves the state it makes. -/
def State.raise (s : State) (e : ErrCode) : State :=
  { s with
    err := e
    activity := .idle
    reply := some (.error e)
    table :=
      ⟨Config.freeEntries s.freeCount, (Config.freeCurSize s.freeCount).toNat, (Config.freeMaxSize s.freeCount).toNat⟩
    phase := Config.freePhase s.freeCount
    pos := (Config.freePos s.freeCount).toNat
    out := Config.freeOut s.freeCount
    freeCount := s.freeCount + 1 }

/-- An error of a stand-alone primitive: it goes to the host and changes no register of a context (46_commands R278). -/
def State.primitiveError (s : State) (e : ErrCode) : State := s.answer (.error e)

/-- What a turn of the loop of `HUFF.DEC` does to the machine when the command runs on its own (46_commands R276). -/
def State.afterTurn (s : State) : HuffTurn → State
  | .more r => { s with activity := .huffman r }
  | .finished text => s.answer (.octets text)
  | .failed => s.primitiveError .huffmanDecodeFailure

end Sys2Proof.Machine
end

