-- ==== Sys2Proof/Machine/Codes.lean ====
section
/-!
DEFINITION. The 257 Huffman codes (43_huffman_table R201) as the HUFF unit executes them: the leaf of a symbol is
valid when its whole code lies inside the payload, and then emits the symbol and consumes the code (42_huffman R176
line 10, R177); else it is padding or a failure (lines 12 to 14). EOS has no leaf: its slots are empty (line 8, R174).
-/

namespace Sys2Proof.Machine

/-- The leaf of a symbol is reached at the current bit position (42_huffman R176 lines 10 to 14). -/
def codeBody (sym : Nat) (s : State) : Host.Outcome State Fault Refusal :=
  .next (s.afterTurn (huffLeaf sym (huffCodeOf sym).len s.huffRegs))

/-- The empty slots of EOS are reached: `raise HuffmanDecodeFailure` (42_huffman R176 line 8, R174). -/
def eosBody (s : State) : Host.Outcome State Fault Refusal := .next (s.afterTurn .failed)

/-- `HUFF.0` (43_huffman_table R201, symbol 0). -/
def execHuff0 (s : State) : Host.Outcome State Fault Refusal := codeBody 0 s

/-- `HUFF.1` (43_huffman_table R201, symbol 1). -/
def execHuff1 (s : State) : Host.Outcome State Fault Refusal := codeBody 1 s

/-- `HUFF.2` (43_huffman_table R201, symbol 2). -/
def execHuff2 (s : State) : Host.Outcome State Fault Refusal := codeBody 2 s

/-- `HUFF.3` (43_huffman_table R201, symbol 3). -/
def execHuff3 (s : State) : Host.Outcome State Fault Refusal := codeBody 3 s

/-- `HUFF.4` (43_huffman_table R201, symbol 4). -/
def execHuff4 (s : State) : Host.Outcome State Fault Refusal := codeBody 4 s

/-- `HUFF.5` (43_huffman_table R201, symbol 5). -/
def execHuff5 (s : State) : Host.Outcome State Fault Refusal := codeBody 5 s

/-- `HUFF.6` (43_huffman_table R201, symbol 6). -/
def execHuff6 (s : State) : Host.Outcome State Fault Refusal := codeBody 6 s

/-- `HUFF.7` (43_huffman_table R201, symbol 7). -/
def execHuff7 (s : State) : Host.Outcome State Fault Refusal := codeBody 7 s

/-- `HUFF.8` (43_huffman_table R201, symbol 8). -/
def execHuff8 (s : State) : Host.Outcome State Fault Refusal := codeBody 8 s

/-- `HUFF.9` (43_huffman_table R201, symbol 9). -/
def execHuff9 (s : State) : Host.Outcome State Fault Refusal := codeBody 9 s

/-- `HUFF.10` (43_huffman_table R201, symbol 10). -/
def execHuff10 (s : State) : Host.Outcome State Fault Refusal := codeBody 10 s

/-- `HUFF.11` (43_huffman_table R201, symbol 11). -/
def execHuff11 (s : State) : Host.Outcome State Fault Refusal := codeBody 11 s

/-- `HUFF.12` (43_huffman_table R201, symbol 12). -/
def execHuff12 (s : State) : Host.Outcome State Fault Refusal := codeBody 12 s

/-- `HUFF.13` (43_huffman_table R201, symbol 13). -/
def execHuff13 (s : State) : Host.Outcome State Fault Refusal := codeBody 13 s

/-- `HUFF.14` (43_huffman_table R201, symbol 14). -/
def execHuff14 (s : State) : Host.Outcome State Fault Refusal := codeBody 14 s

/-- `HUFF.15` (43_huffman_table R201, symbol 15). -/
def execHuff15 (s : State) : Host.Outcome State Fault Refusal := codeBody 15 s

/-- `HUFF.16` (43_huffman_table R201, symbol 16). -/
def execHuff16 (s : State) : Host.Outcome State Fault Refusal := codeBody 16 s

/-- `HUFF.17` (43_huffman_table R201, symbol 17). -/
def execHuff17 (s : State) : Host.Outcome State Fault Refusal := codeBody 17 s

/-- `HUFF.18` (43_huffman_table R201, symbol 18). -/
def execHuff18 (s : State) : Host.Outcome State Fault Refusal := codeBody 18 s

/-- `HUFF.19` (43_huffman_table R201, symbol 19). -/
def execHuff19 (s : State) : Host.Outcome State Fault Refusal := codeBody 19 s

/-- `HUFF.20` (43_huffman_table R201, symbol 20). -/
def execHuff20 (s : State) : Host.Outcome State Fault Refusal := codeBody 20 s

/-- `HUFF.21` (43_huffman_table R201, symbol 21). -/
def execHuff21 (s : State) : Host.Outcome State Fault Refusal := codeBody 21 s

/-- `HUFF.22` (43_huffman_table R201, symbol 22). -/
def execHuff22 (s : State) : Host.Outcome State Fault Refusal := codeBody 22 s

/-- `HUFF.23` (43_huffman_table R201, symbol 23). -/
def execHuff23 (s : State) : Host.Outcome State Fault Refusal := codeBody 23 s

/-- `HUFF.24` (43_huffman_table R201, symbol 24). -/
def execHuff24 (s : State) : Host.Outcome State Fault Refusal := codeBody 24 s

/-- `HUFF.25` (43_huffman_table R201, symbol 25). -/
def execHuff25 (s : State) : Host.Outcome State Fault Refusal := codeBody 25 s

/-- `HUFF.26` (43_huffman_table R201, symbol 26). -/
def execHuff26 (s : State) : Host.Outcome State Fault Refusal := codeBody 26 s

/-- `HUFF.27` (43_huffman_table R201, symbol 27). -/
def execHuff27 (s : State) : Host.Outcome State Fault Refusal := codeBody 27 s

/-- `HUFF.28` (43_huffman_table R201, symbol 28). -/
def execHuff28 (s : State) : Host.Outcome State Fault Refusal := codeBody 28 s

/-- `HUFF.29` (43_huffman_table R201, symbol 29). -/
def execHuff29 (s : State) : Host.Outcome State Fault Refusal := codeBody 29 s

/-- `HUFF.30` (43_huffman_table R201, symbol 30). -/
def execHuff30 (s : State) : Host.Outcome State Fault Refusal := codeBody 30 s

/-- `HUFF.31` (43_huffman_table R201, symbol 31). -/
def execHuff31 (s : State) : Host.Outcome State Fault Refusal := codeBody 31 s

/-- `HUFF.32` (43_huffman_table R201, symbol 32). -/
def execHuff32 (s : State) : Host.Outcome State Fault Refusal := codeBody 32 s

/-- `HUFF.33` (43_huffman_table R201, symbol 33). -/
def execHuff33 (s : State) : Host.Outcome State Fault Refusal := codeBody 33 s

/-- `HUFF.34` (43_huffman_table R201, symbol 34). -/
def execHuff34 (s : State) : Host.Outcome State Fault Refusal := codeBody 34 s

/-- `HUFF.35` (43_huffman_table R201, symbol 35). -/
def execHuff35 (s : State) : Host.Outcome State Fault Refusal := codeBody 35 s

/-- `HUFF.36` (43_huffman_table R201, symbol 36). -/
def execHuff36 (s : State) : Host.Outcome State Fault Refusal := codeBody 36 s

/-- `HUFF.37` (43_huffman_table R201, symbol 37). -/
def execHuff37 (s : State) : Host.Outcome State Fault Refusal := codeBody 37 s

/-- `HUFF.38` (43_huffman_table R201, symbol 38). -/
def execHuff38 (s : State) : Host.Outcome State Fault Refusal := codeBody 38 s

/-- `HUFF.39` (43_huffman_table R201, symbol 39). -/
def execHuff39 (s : State) : Host.Outcome State Fault Refusal := codeBody 39 s

/-- `HUFF.40` (43_huffman_table R201, symbol 40). -/
def execHuff40 (s : State) : Host.Outcome State Fault Refusal := codeBody 40 s

/-- `HUFF.41` (43_huffman_table R201, symbol 41). -/
def execHuff41 (s : State) : Host.Outcome State Fault Refusal := codeBody 41 s

/-- `HUFF.42` (43_huffman_table R201, symbol 42). -/
def execHuff42 (s : State) : Host.Outcome State Fault Refusal := codeBody 42 s

/-- `HUFF.43` (43_huffman_table R201, symbol 43). -/
def execHuff43 (s : State) : Host.Outcome State Fault Refusal := codeBody 43 s

/-- `HUFF.44` (43_huffman_table R201, symbol 44). -/
def execHuff44 (s : State) : Host.Outcome State Fault Refusal := codeBody 44 s

/-- `HUFF.45` (43_huffman_table R201, symbol 45). -/
def execHuff45 (s : State) : Host.Outcome State Fault Refusal := codeBody 45 s

/-- `HUFF.46` (43_huffman_table R201, symbol 46). -/
def execHuff46 (s : State) : Host.Outcome State Fault Refusal := codeBody 46 s

/-- `HUFF.47` (43_huffman_table R201, symbol 47). -/
def execHuff47 (s : State) : Host.Outcome State Fault Refusal := codeBody 47 s

/-- `HUFF.48` (43_huffman_table R201, symbol 48). -/
def execHuff48 (s : State) : Host.Outcome State Fault Refusal := codeBody 48 s

/-- `HUFF.49` (43_huffman_table R201, symbol 49). -/
def execHuff49 (s : State) : Host.Outcome State Fault Refusal := codeBody 49 s

/-- `HUFF.50` (43_huffman_table R201, symbol 50). -/
def execHuff50 (s : State) : Host.Outcome State Fault Refusal := codeBody 50 s

/-- `HUFF.51` (43_huffman_table R201, symbol 51). -/
def execHuff51 (s : State) : Host.Outcome State Fault Refusal := codeBody 51 s

/-- `HUFF.52` (43_huffman_table R201, symbol 52). -/
def execHuff52 (s : State) : Host.Outcome State Fault Refusal := codeBody 52 s

/-- `HUFF.53` (43_huffman_table R201, symbol 53). -/
def execHuff53 (s : State) : Host.Outcome State Fault Refusal := codeBody 53 s

/-- `HUFF.54` (43_huffman_table R201, symbol 54). -/
def execHuff54 (s : State) : Host.Outcome State Fault Refusal := codeBody 54 s

/-- `HUFF.55` (43_huffman_table R201, symbol 55). -/
def execHuff55 (s : State) : Host.Outcome State Fault Refusal := codeBody 55 s

/-- `HUFF.56` (43_huffman_table R201, symbol 56). -/
def execHuff56 (s : State) : Host.Outcome State Fault Refusal := codeBody 56 s

/-- `HUFF.57` (43_huffman_table R201, symbol 57). -/
def execHuff57 (s : State) : Host.Outcome State Fault Refusal := codeBody 57 s

/-- `HUFF.58` (43_huffman_table R201, symbol 58). -/
def execHuff58 (s : State) : Host.Outcome State Fault Refusal := codeBody 58 s

/-- `HUFF.59` (43_huffman_table R201, symbol 59). -/
def execHuff59 (s : State) : Host.Outcome State Fault Refusal := codeBody 59 s

/-- `HUFF.60` (43_huffman_table R201, symbol 60). -/
def execHuff60 (s : State) : Host.Outcome State Fault Refusal := codeBody 60 s

/-- `HUFF.61` (43_huffman_table R201, symbol 61). -/
def execHuff61 (s : State) : Host.Outcome State Fault Refusal := codeBody 61 s

/-- `HUFF.62` (43_huffman_table R201, symbol 62). -/
def execHuff62 (s : State) : Host.Outcome State Fault Refusal := codeBody 62 s

/-- `HUFF.63` (43_huffman_table R201, symbol 63). -/
def execHuff63 (s : State) : Host.Outcome State Fault Refusal := codeBody 63 s

/-- `HUFF.64` (43_huffman_table R201, symbol 64). -/
def execHuff64 (s : State) : Host.Outcome State Fault Refusal := codeBody 64 s

/-- `HUFF.65` (43_huffman_table R201, symbol 65). -/
def execHuff65 (s : State) : Host.Outcome State Fault Refusal := codeBody 65 s

/-- `HUFF.66` (43_huffman_table R201, symbol 66). -/
def execHuff66 (s : State) : Host.Outcome State Fault Refusal := codeBody 66 s

/-- `HUFF.67` (43_huffman_table R201, symbol 67). -/
def execHuff67 (s : State) : Host.Outcome State Fault Refusal := codeBody 67 s

/-- `HUFF.68` (43_huffman_table R201, symbol 68). -/
def execHuff68 (s : State) : Host.Outcome State Fault Refusal := codeBody 68 s

/-- `HUFF.69` (43_huffman_table R201, symbol 69). -/
def execHuff69 (s : State) : Host.Outcome State Fault Refusal := codeBody 69 s

/-- `HUFF.70` (43_huffman_table R201, symbol 70). -/
def execHuff70 (s : State) : Host.Outcome State Fault Refusal := codeBody 70 s

/-- `HUFF.71` (43_huffman_table R201, symbol 71). -/
def execHuff71 (s : State) : Host.Outcome State Fault Refusal := codeBody 71 s

/-- `HUFF.72` (43_huffman_table R201, symbol 72). -/
def execHuff72 (s : State) : Host.Outcome State Fault Refusal := codeBody 72 s

/-- `HUFF.73` (43_huffman_table R201, symbol 73). -/
def execHuff73 (s : State) : Host.Outcome State Fault Refusal := codeBody 73 s

/-- `HUFF.74` (43_huffman_table R201, symbol 74). -/
def execHuff74 (s : State) : Host.Outcome State Fault Refusal := codeBody 74 s

/-- `HUFF.75` (43_huffman_table R201, symbol 75). -/
def execHuff75 (s : State) : Host.Outcome State Fault Refusal := codeBody 75 s

/-- `HUFF.76` (43_huffman_table R201, symbol 76). -/
def execHuff76 (s : State) : Host.Outcome State Fault Refusal := codeBody 76 s

/-- `HUFF.77` (43_huffman_table R201, symbol 77). -/
def execHuff77 (s : State) : Host.Outcome State Fault Refusal := codeBody 77 s

/-- `HUFF.78` (43_huffman_table R201, symbol 78). -/
def execHuff78 (s : State) : Host.Outcome State Fault Refusal := codeBody 78 s

/-- `HUFF.79` (43_huffman_table R201, symbol 79). -/
def execHuff79 (s : State) : Host.Outcome State Fault Refusal := codeBody 79 s

/-- `HUFF.80` (43_huffman_table R201, symbol 80). -/
def execHuff80 (s : State) : Host.Outcome State Fault Refusal := codeBody 80 s

/-- `HUFF.81` (43_huffman_table R201, symbol 81). -/
def execHuff81 (s : State) : Host.Outcome State Fault Refusal := codeBody 81 s

/-- `HUFF.82` (43_huffman_table R201, symbol 82). -/
def execHuff82 (s : State) : Host.Outcome State Fault Refusal := codeBody 82 s

/-- `HUFF.83` (43_huffman_table R201, symbol 83). -/
def execHuff83 (s : State) : Host.Outcome State Fault Refusal := codeBody 83 s

/-- `HUFF.84` (43_huffman_table R201, symbol 84). -/
def execHuff84 (s : State) : Host.Outcome State Fault Refusal := codeBody 84 s

/-- `HUFF.85` (43_huffman_table R201, symbol 85). -/
def execHuff85 (s : State) : Host.Outcome State Fault Refusal := codeBody 85 s

/-- `HUFF.86` (43_huffman_table R201, symbol 86). -/
def execHuff86 (s : State) : Host.Outcome State Fault Refusal := codeBody 86 s

/-- `HUFF.87` (43_huffman_table R201, symbol 87). -/
def execHuff87 (s : State) : Host.Outcome State Fault Refusal := codeBody 87 s

/-- `HUFF.88` (43_huffman_table R201, symbol 88). -/
def execHuff88 (s : State) : Host.Outcome State Fault Refusal := codeBody 88 s

/-- `HUFF.89` (43_huffman_table R201, symbol 89). -/
def execHuff89 (s : State) : Host.Outcome State Fault Refusal := codeBody 89 s

/-- `HUFF.90` (43_huffman_table R201, symbol 90). -/
def execHuff90 (s : State) : Host.Outcome State Fault Refusal := codeBody 90 s

/-- `HUFF.91` (43_huffman_table R201, symbol 91). -/
def execHuff91 (s : State) : Host.Outcome State Fault Refusal := codeBody 91 s

/-- `HUFF.92` (43_huffman_table R201, symbol 92). -/
def execHuff92 (s : State) : Host.Outcome State Fault Refusal := codeBody 92 s

/-- `HUFF.93` (43_huffman_table R201, symbol 93). -/
def execHuff93 (s : State) : Host.Outcome State Fault Refusal := codeBody 93 s

/-- `HUFF.94` (43_huffman_table R201, symbol 94). -/
def execHuff94 (s : State) : Host.Outcome State Fault Refusal := codeBody 94 s

/-- `HUFF.95` (43_huffman_table R201, symbol 95). -/
def execHuff95 (s : State) : Host.Outcome State Fault Refusal := codeBody 95 s

/-- `HUFF.96` (43_huffman_table R201, symbol 96). -/
def execHuff96 (s : State) : Host.Outcome State Fault Refusal := codeBody 96 s

/-- `HUFF.97` (43_huffman_table R201, symbol 97). -/
def execHuff97 (s : State) : Host.Outcome State Fault Refusal := codeBody 97 s

/-- `HUFF.98` (43_huffman_table R201, symbol 98). -/
def execHuff98 (s : State) : Host.Outcome State Fault Refusal := codeBody 98 s

/-- `HUFF.99` (43_huffman_table R201, symbol 99). -/
def execHuff99 (s : State) : Host.Outcome State Fault Refusal := codeBody 99 s

/-- `HUFF.100` (43_huffman_table R201, symbol 100). -/
def execHuff100 (s : State) : Host.Outcome State Fault Refusal := codeBody 100 s

/-- `HUFF.101` (43_huffman_table R201, symbol 101). -/
def execHuff101 (s : State) : Host.Outcome State Fault Refusal := codeBody 101 s

/-- `HUFF.102` (43_huffman_table R201, symbol 102). -/
def execHuff102 (s : State) : Host.Outcome State Fault Refusal := codeBody 102 s

/-- `HUFF.103` (43_huffman_table R201, symbol 103). -/
def execHuff103 (s : State) : Host.Outcome State Fault Refusal := codeBody 103 s

/-- `HUFF.104` (43_huffman_table R201, symbol 104). -/
def execHuff104 (s : State) : Host.Outcome State Fault Refusal := codeBody 104 s

/-- `HUFF.105` (43_huffman_table R201, symbol 105). -/
def execHuff105 (s : State) : Host.Outcome State Fault Refusal := codeBody 105 s

/-- `HUFF.106` (43_huffman_table R201, symbol 106). -/
def execHuff106 (s : State) : Host.Outcome State Fault Refusal := codeBody 106 s

/-- `HUFF.107` (43_huffman_table R201, symbol 107). -/
def execHuff107 (s : State) : Host.Outcome State Fault Refusal := codeBody 107 s

/-- `HUFF.108` (43_huffman_table R201, symbol 108). -/
def execHuff108 (s : State) : Host.Outcome State Fault Refusal := codeBody 108 s

/-- `HUFF.109` (43_huffman_table R201, symbol 109). -/
def execHuff109 (s : State) : Host.Outcome State Fault Refusal := codeBody 109 s

/-- `HUFF.110` (43_huffman_table R201, symbol 110). -/
def execHuff110 (s : State) : Host.Outcome State Fault Refusal := codeBody 110 s

/-- `HUFF.111` (43_huffman_table R201, symbol 111). -/
def execHuff111 (s : State) : Host.Outcome State Fault Refusal := codeBody 111 s

/-- `HUFF.112` (43_huffman_table R201, symbol 112). -/
def execHuff112 (s : State) : Host.Outcome State Fault Refusal := codeBody 112 s

/-- `HUFF.113` (43_huffman_table R201, symbol 113). -/
def execHuff113 (s : State) : Host.Outcome State Fault Refusal := codeBody 113 s

/-- `HUFF.114` (43_huffman_table R201, symbol 114). -/
def execHuff114 (s : State) : Host.Outcome State Fault Refusal := codeBody 114 s

/-- `HUFF.115` (43_huffman_table R201, symbol 115). -/
def execHuff115 (s : State) : Host.Outcome State Fault Refusal := codeBody 115 s

/-- `HUFF.116` (43_huffman_table R201, symbol 116). -/
def execHuff116 (s : State) : Host.Outcome State Fault Refusal := codeBody 116 s

/-- `HUFF.117` (43_huffman_table R201, symbol 117). -/
def execHuff117 (s : State) : Host.Outcome State Fault Refusal := codeBody 117 s

/-- `HUFF.118` (43_huffman_table R201, symbol 118). -/
def execHuff118 (s : State) : Host.Outcome State Fault Refusal := codeBody 118 s

/-- `HUFF.119` (43_huffman_table R201, symbol 119). -/
def execHuff119 (s : State) : Host.Outcome State Fault Refusal := codeBody 119 s

/-- `HUFF.120` (43_huffman_table R201, symbol 120). -/
def execHuff120 (s : State) : Host.Outcome State Fault Refusal := codeBody 120 s

/-- `HUFF.121` (43_huffman_table R201, symbol 121). -/
def execHuff121 (s : State) : Host.Outcome State Fault Refusal := codeBody 121 s

/-- `HUFF.122` (43_huffman_table R201, symbol 122). -/
def execHuff122 (s : State) : Host.Outcome State Fault Refusal := codeBody 122 s

/-- `HUFF.123` (43_huffman_table R201, symbol 123). -/
def execHuff123 (s : State) : Host.Outcome State Fault Refusal := codeBody 123 s

/-- `HUFF.124` (43_huffman_table R201, symbol 124). -/
def execHuff124 (s : State) : Host.Outcome State Fault Refusal := codeBody 124 s

/-- `HUFF.125` (43_huffman_table R201, symbol 125). -/
def execHuff125 (s : State) : Host.Outcome State Fault Refusal := codeBody 125 s

/-- `HUFF.126` (43_huffman_table R201, symbol 126). -/
def execHuff126 (s : State) : Host.Outcome State Fault Refusal := codeBody 126 s

/-- `HUFF.127` (43_huffman_table R201, symbol 127). -/
def execHuff127 (s : State) : Host.Outcome State Fault Refusal := codeBody 127 s

/-- `HUFF.128` (43_huffman_table R201, symbol 128). -/
def execHuff128 (s : State) : Host.Outcome State Fault Refusal := codeBody 128 s

/-- `HUFF.129` (43_huffman_table R201, symbol 129). -/
def execHuff129 (s : State) : Host.Outcome State Fault Refusal := codeBody 129 s

/-- `HUFF.130` (43_huffman_table R201, symbol 130). -/
def execHuff130 (s : State) : Host.Outcome State Fault Refusal := codeBody 130 s

/-- `HUFF.131` (43_huffman_table R201, symbol 131). -/
def execHuff131 (s : State) : Host.Outcome State Fault Refusal := codeBody 131 s

/-- `HUFF.132` (43_huffman_table R201, symbol 132). -/
def execHuff132 (s : State) : Host.Outcome State Fault Refusal := codeBody 132 s

/-- `HUFF.133` (43_huffman_table R201, symbol 133). -/
def execHuff133 (s : State) : Host.Outcome State Fault Refusal := codeBody 133 s

/-- `HUFF.134` (43_huffman_table R201, symbol 134). -/
def execHuff134 (s : State) : Host.Outcome State Fault Refusal := codeBody 134 s

/-- `HUFF.135` (43_huffman_table R201, symbol 135). -/
def execHuff135 (s : State) : Host.Outcome State Fault Refusal := codeBody 135 s

/-- `HUFF.136` (43_huffman_table R201, symbol 136). -/
def execHuff136 (s : State) : Host.Outcome State Fault Refusal := codeBody 136 s

/-- `HUFF.137` (43_huffman_table R201, symbol 137). -/
def execHuff137 (s : State) : Host.Outcome State Fault Refusal := codeBody 137 s

/-- `HUFF.138` (43_huffman_table R201, symbol 138). -/
def execHuff138 (s : State) : Host.Outcome State Fault Refusal := codeBody 138 s

/-- `HUFF.139` (43_huffman_table R201, symbol 139). -/
def execHuff139 (s : State) : Host.Outcome State Fault Refusal := codeBody 139 s

/-- `HUFF.140` (43_huffman_table R201, symbol 140). -/
def execHuff140 (s : State) : Host.Outcome State Fault Refusal := codeBody 140 s

/-- `HUFF.141` (43_huffman_table R201, symbol 141). -/
def execHuff141 (s : State) : Host.Outcome State Fault Refusal := codeBody 141 s

/-- `HUFF.142` (43_huffman_table R201, symbol 142). -/
def execHuff142 (s : State) : Host.Outcome State Fault Refusal := codeBody 142 s

/-- `HUFF.143` (43_huffman_table R201, symbol 143). -/
def execHuff143 (s : State) : Host.Outcome State Fault Refusal := codeBody 143 s

/-- `HUFF.144` (43_huffman_table R201, symbol 144). -/
def execHuff144 (s : State) : Host.Outcome State Fault Refusal := codeBody 144 s

/-- `HUFF.145` (43_huffman_table R201, symbol 145). -/
def execHuff145 (s : State) : Host.Outcome State Fault Refusal := codeBody 145 s

/-- `HUFF.146` (43_huffman_table R201, symbol 146). -/
def execHuff146 (s : State) : Host.Outcome State Fault Refusal := codeBody 146 s

/-- `HUFF.147` (43_huffman_table R201, symbol 147). -/
def execHuff147 (s : State) : Host.Outcome State Fault Refusal := codeBody 147 s

/-- `HUFF.148` (43_huffman_table R201, symbol 148). -/
def execHuff148 (s : State) : Host.Outcome State Fault Refusal := codeBody 148 s

/-- `HUFF.149` (43_huffman_table R201, symbol 149). -/
def execHuff149 (s : State) : Host.Outcome State Fault Refusal := codeBody 149 s

/-- `HUFF.150` (43_huffman_table R201, symbol 150). -/
def execHuff150 (s : State) : Host.Outcome State Fault Refusal := codeBody 150 s

/-- `HUFF.151` (43_huffman_table R201, symbol 151). -/
def execHuff151 (s : State) : Host.Outcome State Fault Refusal := codeBody 151 s

/-- `HUFF.152` (43_huffman_table R201, symbol 152). -/
def execHuff152 (s : State) : Host.Outcome State Fault Refusal := codeBody 152 s

/-- `HUFF.153` (43_huffman_table R201, symbol 153). -/
def execHuff153 (s : State) : Host.Outcome State Fault Refusal := codeBody 153 s

/-- `HUFF.154` (43_huffman_table R201, symbol 154). -/
def execHuff154 (s : State) : Host.Outcome State Fault Refusal := codeBody 154 s

/-- `HUFF.155` (43_huffman_table R201, symbol 155). -/
def execHuff155 (s : State) : Host.Outcome State Fault Refusal := codeBody 155 s

/-- `HUFF.156` (43_huffman_table R201, symbol 156). -/
def execHuff156 (s : State) : Host.Outcome State Fault Refusal := codeBody 156 s

/-- `HUFF.157` (43_huffman_table R201, symbol 157). -/
def execHuff157 (s : State) : Host.Outcome State Fault Refusal := codeBody 157 s

/-- `HUFF.158` (43_huffman_table R201, symbol 158). -/
def execHuff158 (s : State) : Host.Outcome State Fault Refusal := codeBody 158 s

/-- `HUFF.159` (43_huffman_table R201, symbol 159). -/
def execHuff159 (s : State) : Host.Outcome State Fault Refusal := codeBody 159 s

/-- `HUFF.160` (43_huffman_table R201, symbol 160). -/
def execHuff160 (s : State) : Host.Outcome State Fault Refusal := codeBody 160 s

/-- `HUFF.161` (43_huffman_table R201, symbol 161). -/
def execHuff161 (s : State) : Host.Outcome State Fault Refusal := codeBody 161 s

/-- `HUFF.162` (43_huffman_table R201, symbol 162). -/
def execHuff162 (s : State) : Host.Outcome State Fault Refusal := codeBody 162 s

/-- `HUFF.163` (43_huffman_table R201, symbol 163). -/
def execHuff163 (s : State) : Host.Outcome State Fault Refusal := codeBody 163 s

/-- `HUFF.164` (43_huffman_table R201, symbol 164). -/
def execHuff164 (s : State) : Host.Outcome State Fault Refusal := codeBody 164 s

/-- `HUFF.165` (43_huffman_table R201, symbol 165). -/
def execHuff165 (s : State) : Host.Outcome State Fault Refusal := codeBody 165 s

/-- `HUFF.166` (43_huffman_table R201, symbol 166). -/
def execHuff166 (s : State) : Host.Outcome State Fault Refusal := codeBody 166 s

/-- `HUFF.167` (43_huffman_table R201, symbol 167). -/
def execHuff167 (s : State) : Host.Outcome State Fault Refusal := codeBody 167 s

/-- `HUFF.168` (43_huffman_table R201, symbol 168). -/
def execHuff168 (s : State) : Host.Outcome State Fault Refusal := codeBody 168 s

/-- `HUFF.169` (43_huffman_table R201, symbol 169). -/
def execHuff169 (s : State) : Host.Outcome State Fault Refusal := codeBody 169 s

/-- `HUFF.170` (43_huffman_table R201, symbol 170). -/
def execHuff170 (s : State) : Host.Outcome State Fault Refusal := codeBody 170 s

/-- `HUFF.171` (43_huffman_table R201, symbol 171). -/
def execHuff171 (s : State) : Host.Outcome State Fault Refusal := codeBody 171 s

/-- `HUFF.172` (43_huffman_table R201, symbol 172). -/
def execHuff172 (s : State) : Host.Outcome State Fault Refusal := codeBody 172 s

/-- `HUFF.173` (43_huffman_table R201, symbol 173). -/
def execHuff173 (s : State) : Host.Outcome State Fault Refusal := codeBody 173 s

/-- `HUFF.174` (43_huffman_table R201, symbol 174). -/
def execHuff174 (s : State) : Host.Outcome State Fault Refusal := codeBody 174 s

/-- `HUFF.175` (43_huffman_table R201, symbol 175). -/
def execHuff175 (s : State) : Host.Outcome State Fault Refusal := codeBody 175 s

/-- `HUFF.176` (43_huffman_table R201, symbol 176). -/
def execHuff176 (s : State) : Host.Outcome State Fault Refusal := codeBody 176 s

/-- `HUFF.177` (43_huffman_table R201, symbol 177). -/
def execHuff177 (s : State) : Host.Outcome State Fault Refusal := codeBody 177 s

/-- `HUFF.178` (43_huffman_table R201, symbol 178). -/
def execHuff178 (s : State) : Host.Outcome State Fault Refusal := codeBody 178 s

/-- `HUFF.179` (43_huffman_table R201, symbol 179). -/
def execHuff179 (s : State) : Host.Outcome State Fault Refusal := codeBody 179 s

/-- `HUFF.180` (43_huffman_table R201, symbol 180). -/
def execHuff180 (s : State) : Host.Outcome State Fault Refusal := codeBody 180 s

/-- `HUFF.181` (43_huffman_table R201, symbol 181). -/
def execHuff181 (s : State) : Host.Outcome State Fault Refusal := codeBody 181 s

/-- `HUFF.182` (43_huffman_table R201, symbol 182). -/
def execHuff182 (s : State) : Host.Outcome State Fault Refusal := codeBody 182 s

/-- `HUFF.183` (43_huffman_table R201, symbol 183). -/
def execHuff183 (s : State) : Host.Outcome State Fault Refusal := codeBody 183 s

/-- `HUFF.184` (43_huffman_table R201, symbol 184). -/
def execHuff184 (s : State) : Host.Outcome State Fault Refusal := codeBody 184 s

/-- `HUFF.185` (43_huffman_table R201, symbol 185). -/
def execHuff185 (s : State) : Host.Outcome State Fault Refusal := codeBody 185 s

/-- `HUFF.186` (43_huffman_table R201, symbol 186). -/
def execHuff186 (s : State) : Host.Outcome State Fault Refusal := codeBody 186 s

/-- `HUFF.187` (43_huffman_table R201, symbol 187). -/
def execHuff187 (s : State) : Host.Outcome State Fault Refusal := codeBody 187 s

/-- `HUFF.188` (43_huffman_table R201, symbol 188). -/
def execHuff188 (s : State) : Host.Outcome State Fault Refusal := codeBody 188 s

/-- `HUFF.189` (43_huffman_table R201, symbol 189). -/
def execHuff189 (s : State) : Host.Outcome State Fault Refusal := codeBody 189 s

/-- `HUFF.190` (43_huffman_table R201, symbol 190). -/
def execHuff190 (s : State) : Host.Outcome State Fault Refusal := codeBody 190 s

/-- `HUFF.191` (43_huffman_table R201, symbol 191). -/
def execHuff191 (s : State) : Host.Outcome State Fault Refusal := codeBody 191 s

/-- `HUFF.192` (43_huffman_table R201, symbol 192). -/
def execHuff192 (s : State) : Host.Outcome State Fault Refusal := codeBody 192 s

/-- `HUFF.193` (43_huffman_table R201, symbol 193). -/
def execHuff193 (s : State) : Host.Outcome State Fault Refusal := codeBody 193 s

/-- `HUFF.194` (43_huffman_table R201, symbol 194). -/
def execHuff194 (s : State) : Host.Outcome State Fault Refusal := codeBody 194 s

/-- `HUFF.195` (43_huffman_table R201, symbol 195). -/
def execHuff195 (s : State) : Host.Outcome State Fault Refusal := codeBody 195 s

/-- `HUFF.196` (43_huffman_table R201, symbol 196). -/
def execHuff196 (s : State) : Host.Outcome State Fault Refusal := codeBody 196 s

/-- `HUFF.197` (43_huffman_table R201, symbol 197). -/
def execHuff197 (s : State) : Host.Outcome State Fault Refusal := codeBody 197 s

/-- `HUFF.198` (43_huffman_table R201, symbol 198). -/
def execHuff198 (s : State) : Host.Outcome State Fault Refusal := codeBody 198 s

/-- `HUFF.199` (43_huffman_table R201, symbol 199). -/
def execHuff199 (s : State) : Host.Outcome State Fault Refusal := codeBody 199 s

/-- `HUFF.200` (43_huffman_table R201, symbol 200). -/
def execHuff200 (s : State) : Host.Outcome State Fault Refusal := codeBody 200 s

/-- `HUFF.201` (43_huffman_table R201, symbol 201). -/
def execHuff201 (s : State) : Host.Outcome State Fault Refusal := codeBody 201 s

/-- `HUFF.202` (43_huffman_table R201, symbol 202). -/
def execHuff202 (s : State) : Host.Outcome State Fault Refusal := codeBody 202 s

/-- `HUFF.203` (43_huffman_table R201, symbol 203). -/
def execHuff203 (s : State) : Host.Outcome State Fault Refusal := codeBody 203 s

/-- `HUFF.204` (43_huffman_table R201, symbol 204). -/
def execHuff204 (s : State) : Host.Outcome State Fault Refusal := codeBody 204 s

/-- `HUFF.205` (43_huffman_table R201, symbol 205). -/
def execHuff205 (s : State) : Host.Outcome State Fault Refusal := codeBody 205 s

/-- `HUFF.206` (43_huffman_table R201, symbol 206). -/
def execHuff206 (s : State) : Host.Outcome State Fault Refusal := codeBody 206 s

/-- `HUFF.207` (43_huffman_table R201, symbol 207). -/
def execHuff207 (s : State) : Host.Outcome State Fault Refusal := codeBody 207 s

/-- `HUFF.208` (43_huffman_table R201, symbol 208). -/
def execHuff208 (s : State) : Host.Outcome State Fault Refusal := codeBody 208 s

/-- `HUFF.209` (43_huffman_table R201, symbol 209). -/
def execHuff209 (s : State) : Host.Outcome State Fault Refusal := codeBody 209 s

/-- `HUFF.210` (43_huffman_table R201, symbol 210). -/
def execHuff210 (s : State) : Host.Outcome State Fault Refusal := codeBody 210 s

/-- `HUFF.211` (43_huffman_table R201, symbol 211). -/
def execHuff211 (s : State) : Host.Outcome State Fault Refusal := codeBody 211 s

/-- `HUFF.212` (43_huffman_table R201, symbol 212). -/
def execHuff212 (s : State) : Host.Outcome State Fault Refusal := codeBody 212 s

/-- `HUFF.213` (43_huffman_table R201, symbol 213). -/
def execHuff213 (s : State) : Host.Outcome State Fault Refusal := codeBody 213 s

/-- `HUFF.214` (43_huffman_table R201, symbol 214). -/
def execHuff214 (s : State) : Host.Outcome State Fault Refusal := codeBody 214 s

/-- `HUFF.215` (43_huffman_table R201, symbol 215). -/
def execHuff215 (s : State) : Host.Outcome State Fault Refusal := codeBody 215 s

/-- `HUFF.216` (43_huffman_table R201, symbol 216). -/
def execHuff216 (s : State) : Host.Outcome State Fault Refusal := codeBody 216 s

/-- `HUFF.217` (43_huffman_table R201, symbol 217). -/
def execHuff217 (s : State) : Host.Outcome State Fault Refusal := codeBody 217 s

/-- `HUFF.218` (43_huffman_table R201, symbol 218). -/
def execHuff218 (s : State) : Host.Outcome State Fault Refusal := codeBody 218 s

/-- `HUFF.219` (43_huffman_table R201, symbol 219). -/
def execHuff219 (s : State) : Host.Outcome State Fault Refusal := codeBody 219 s

/-- `HUFF.220` (43_huffman_table R201, symbol 220). -/
def execHuff220 (s : State) : Host.Outcome State Fault Refusal := codeBody 220 s

/-- `HUFF.221` (43_huffman_table R201, symbol 221). -/
def execHuff221 (s : State) : Host.Outcome State Fault Refusal := codeBody 221 s

/-- `HUFF.222` (43_huffman_table R201, symbol 222). -/
def execHuff222 (s : State) : Host.Outcome State Fault Refusal := codeBody 222 s

/-- `HUFF.223` (43_huffman_table R201, symbol 223). -/
def execHuff223 (s : State) : Host.Outcome State Fault Refusal := codeBody 223 s

/-- `HUFF.224` (43_huffman_table R201, symbol 224). -/
def execHuff224 (s : State) : Host.Outcome State Fault Refusal := codeBody 224 s

/-- `HUFF.225` (43_huffman_table R201, symbol 225). -/
def execHuff225 (s : State) : Host.Outcome State Fault Refusal := codeBody 225 s

/-- `HUFF.226` (43_huffman_table R201, symbol 226). -/
def execHuff226 (s : State) : Host.Outcome State Fault Refusal := codeBody 226 s

/-- `HUFF.227` (43_huffman_table R201, symbol 227). -/
def execHuff227 (s : State) : Host.Outcome State Fault Refusal := codeBody 227 s

/-- `HUFF.228` (43_huffman_table R201, symbol 228). -/
def execHuff228 (s : State) : Host.Outcome State Fault Refusal := codeBody 228 s

/-- `HUFF.229` (43_huffman_table R201, symbol 229). -/
def execHuff229 (s : State) : Host.Outcome State Fault Refusal := codeBody 229 s

/-- `HUFF.230` (43_huffman_table R201, symbol 230). -/
def execHuff230 (s : State) : Host.Outcome State Fault Refusal := codeBody 230 s

/-- `HUFF.231` (43_huffman_table R201, symbol 231). -/
def execHuff231 (s : State) : Host.Outcome State Fault Refusal := codeBody 231 s

/-- `HUFF.232` (43_huffman_table R201, symbol 232). -/
def execHuff232 (s : State) : Host.Outcome State Fault Refusal := codeBody 232 s

/-- `HUFF.233` (43_huffman_table R201, symbol 233). -/
def execHuff233 (s : State) : Host.Outcome State Fault Refusal := codeBody 233 s

/-- `HUFF.234` (43_huffman_table R201, symbol 234). -/
def execHuff234 (s : State) : Host.Outcome State Fault Refusal := codeBody 234 s

/-- `HUFF.235` (43_huffman_table R201, symbol 235). -/
def execHuff235 (s : State) : Host.Outcome State Fault Refusal := codeBody 235 s

/-- `HUFF.236` (43_huffman_table R201, symbol 236). -/
def execHuff236 (s : State) : Host.Outcome State Fault Refusal := codeBody 236 s

/-- `HUFF.237` (43_huffman_table R201, symbol 237). -/
def execHuff237 (s : State) : Host.Outcome State Fault Refusal := codeBody 237 s

/-- `HUFF.238` (43_huffman_table R201, symbol 238). -/
def execHuff238 (s : State) : Host.Outcome State Fault Refusal := codeBody 238 s

/-- `HUFF.239` (43_huffman_table R201, symbol 239). -/
def execHuff239 (s : State) : Host.Outcome State Fault Refusal := codeBody 239 s

/-- `HUFF.240` (43_huffman_table R201, symbol 240). -/
def execHuff240 (s : State) : Host.Outcome State Fault Refusal := codeBody 240 s

/-- `HUFF.241` (43_huffman_table R201, symbol 241). -/
def execHuff241 (s : State) : Host.Outcome State Fault Refusal := codeBody 241 s

/-- `HUFF.242` (43_huffman_table R201, symbol 242). -/
def execHuff242 (s : State) : Host.Outcome State Fault Refusal := codeBody 242 s

/-- `HUFF.243` (43_huffman_table R201, symbol 243). -/
def execHuff243 (s : State) : Host.Outcome State Fault Refusal := codeBody 243 s

/-- `HUFF.244` (43_huffman_table R201, symbol 244). -/
def execHuff244 (s : State) : Host.Outcome State Fault Refusal := codeBody 244 s

/-- `HUFF.245` (43_huffman_table R201, symbol 245). -/
def execHuff245 (s : State) : Host.Outcome State Fault Refusal := codeBody 245 s

/-- `HUFF.246` (43_huffman_table R201, symbol 246). -/
def execHuff246 (s : State) : Host.Outcome State Fault Refusal := codeBody 246 s

/-- `HUFF.247` (43_huffman_table R201, symbol 247). -/
def execHuff247 (s : State) : Host.Outcome State Fault Refusal := codeBody 247 s

/-- `HUFF.248` (43_huffman_table R201, symbol 248). -/
def execHuff248 (s : State) : Host.Outcome State Fault Refusal := codeBody 248 s

/-- `HUFF.249` (43_huffman_table R201, symbol 249). -/
def execHuff249 (s : State) : Host.Outcome State Fault Refusal := codeBody 249 s

/-- `HUFF.250` (43_huffman_table R201, symbol 250). -/
def execHuff250 (s : State) : Host.Outcome State Fault Refusal := codeBody 250 s

/-- `HUFF.251` (43_huffman_table R201, symbol 251). -/
def execHuff251 (s : State) : Host.Outcome State Fault Refusal := codeBody 251 s

/-- `HUFF.252` (43_huffman_table R201, symbol 252). -/
def execHuff252 (s : State) : Host.Outcome State Fault Refusal := codeBody 252 s

/-- `HUFF.253` (43_huffman_table R201, symbol 253). -/
def execHuff253 (s : State) : Host.Outcome State Fault Refusal := codeBody 253 s

/-- `HUFF.254` (43_huffman_table R201, symbol 254). -/
def execHuff254 (s : State) : Host.Outcome State Fault Refusal := codeBody 254 s

/-- `HUFF.255` (43_huffman_table R201, symbol 255). -/
def execHuff255 (s : State) : Host.Outcome State Fault Refusal := codeBody 255 s

/-- `HUFF.EOS` (43_huffman_table R201, symbol 256; 42_huffman R174). -/
def execHuffEOS (s : State) : Host.Outcome State Fault Refusal := eosBody s

end Sys2Proof.Machine
end

