-- ==== Sys2Proof/Machine/Integer.lean ====
section
/-!
DEFINITION. The INT unit: `INT.DEC` (40_integer R131) and `INT.ENC` (R136). A range `B[p..e)` is the list of its
octets, and an offset past the integer is the number of octets it occupies, so `p'` is `p` plus that number. All
arithmetic is on naturals: no value wraps (R134).
-/

namespace Sys2Proof.Machine

/-- `M = 2^N - 1`, the largest value of an N-bit prefix (40_integer R131 step 1). -/
def prefixMax (width : Nat) : Nat := 2 ^ width - 1

/-- The low N bits of the first octet, as a number (40_integer R131 step 3). -/
def prefixValue (b : Octet) (width : Nat) : Nat := (b &&& BitVec.ofNat 8 (prefixMax width)).toNat

/-- The flag bits: the first octet with its low N bits cleared (40_integer R131 step 3). -/
def flagBits (b : Octet) (width : Nat) : Octet := b &&& ~~~(BitVec.ofNat 8 (prefixMax width))

/-- The loop of `INT.DEC` (40_integer R131 steps 5a to 8) on the octets that follow the first one: `n` is the value
so far, `m` the shift, `i` the number of octets read. It answers the number of octets the integer occupies and its
value. The order of the tests is R132's: length, truncation, value. -/
def intDecMore (lim : Limits) : Octets → Nat → Nat → Nat → Except ErrCode (Nat × Nat)
  | [], _, _, i =>
    if lim.intEncLenMax ≤ i then .error .integerEncodedLengthTooLong else .error .truncated
  | c :: cs, n, m, i =>
    if lim.intEncLenMax ≤ i then .error .integerEncodedLengthTooLong
    else
      let v := n + (c &&& 0x7F).toNat * 2 ^ m
      if lim.intValueMax < v then .error .integerValueTooLarge
      else if c.getLsbD 7 then intDecMore lim cs v (m + 7) (i + 1)
      else .ok (i + 1, v)

/-- `INT.DEC` (40_integer R131) on the octets `bs` with prefix width `width`: the number of octets the integer
occupies, the flag bits, the value. -/
def intDec (lim : Limits) (bs : Octets) (width : Nat) : Except ErrCode (Nat × Octet × Nat) :=
  match bs with
  | [] => .error .truncated
  | b :: rest =>
    if prefixValue b width < prefixMax width then
      if lim.intValueMax < prefixValue b width then .error .integerValueTooLarge
      else .ok (1, flagBits b width, prefixValue b width)
    else
      match intDecMore lim rest (prefixValue b width) 0 1 with
      | .error e => .error e
      | .ok (count, v) => .ok (count, flagBits b width, v)

/-- The base-128 digits of `r`, least significant first, each but the last with bit 7 set (40_integer R136 steps 4
and 5). `more` bounds the number of digits that may follow; `r.log2 / 7` are enough for every `r`. -/
def digits7 : Nat → Nat → Octets
  | 0, r => [BitVec.ofNat 8 r]
  | more + 1, r =>
    if 128 ≤ r then (BitVec.ofNat 8 (r % 128) ||| 0x80) :: digits7 more (r / 128)
    else [BitVec.ofNat 8 r]

/-- `INT.ENC` (40_integer R136): the value `v` under a prefix of `width` bits, the flag bits given by the caller. -/
def intEnc (v width : Nat) (flags : Octet) : Octets :=
  if v < prefixMax width then [flags ||| BitVec.ofNat 8 v]
  else
    (flags ||| BitVec.ofNat 8 (prefixMax width)) ::
      digits7 ((v - prefixMax width).log2 / 7) (v - prefixMax width)

end Sys2Proof.Machine
end

