-- ==== Sys2Proof/WellFormed.lean ====
section
/-!
DEFINITION. Which instructions are well formed: the operand ranges of 30_encoding R95 and 92_eei_decisions D2, and
what R93 says of a name index (0 is not a name index: it is how a new name is written).
-/

namespace Sys2Proof

/-- A string literal is well formed: its length is a 64-bit value (92_eei_decisions D2). -/
def StrLit.wf (lit : StrLit) : Bool := decide (lit.payload.length < Config.wordLimit)

/-- A name operand is well formed: an index is a 64-bit value and not 0, a literal is well formed (30_encoding R93). -/
def NameRef.wf : NameRef → Bool
  | .byIndex index => index != 0 && decide (index < Config.wordLimit)
  | .literal lit => lit.wf

/-- An instruction is well formed. `INDEXED` with index 0 is an encoding of the table, one that raises an error
(30_encoding R100), so it is well formed. -/
def Instr.wf (i : Instr) : Bool :=
  match i.form with
  | .indexed index => decide (index < Config.wordLimit)
  | .literal _ name value => name.wf && value.wf
  | .sizeUpdate new => decide (new < Config.wordLimit)
  | .string lit => lit.wf
  | .code _ => true

end Sys2Proof
end

