-- ==== Sys2Proof/Decode.lean ====
section
/-!
DEFINITION. The decoders of the three units, total on any octets and rejecting by name, and the encoder. An octet
range is the list of its octets; an offset past an operand is the number of octets before it.
-/

namespace Sys2Proof

open Machine

/-! ### The tables of 30_encoding R91 -/

/-- The prefix width N of a literal's name index (30_encoding R91). -/
def literalWidth : LiteralKind → Nat
  | .incremental => 6
  | .never => 4
  | .without => 4

/-- The type bits of a literal (30_encoding R91). -/
def literalTypeBits : LiteralKind → Octet
  | .incremental => 0x40
  | .never => 0x10
  | .without => 0x00

/-- The instruction of a literal. -/
def literalInstr : LiteralKind → NameRef → StrLit → Instr
  | .incremental, name, value => .litinc name value
  | .never, name, value => .litnever name value
  | .without, name, value => .litnoidx name value

/-- The prefix width N and the type bits of `INDEXED`, of `SIZEUPD` and of a string literal (30_encoding R91, R97). -/
abbrev indexedWidth : Nat := 7
abbrev indexedTypeBits : Octet := 0x80
abbrev sizeUpdateWidth : Nat := 5
abbrev sizeUpdateTypeBits : Octet := 0x20
abbrev stringWidth : Nat := 7

/-- The representation that a first octet selects. -/
inductive RepKind where
  | indexed
  | literal (kind : LiteralKind)
  | sizeUpdate
deriving DecidableEq, Repr

/-- The dispatch on the first octet: the mask tests of 45_dispatch R237, in its order. -/
def repKind (b : Octet) : RepKind :=
  if b.getLsbD 7 then .indexed
  else if b.getLsbD 6 then .literal .incremental
  else if b.getLsbD 5 then .sizeUpdate
  else if b.getLsbD 4 then .literal .never
  else .literal .without

/-! ### Decoding -/

/-- Why octets are no instruction: what could not be decoded, and the error it raises. A literal whose value does
not decode carries its name operand, because the name is resolved before the value is decoded (45_dispatch R239) and
its error, if it has one, comes first (60_exceptions R332). -/
inductive Reject where
  /-- There is no octet to decode. -/
  | noOctet
  /-- The prefix integer of `INDEXED` or of a literal does not decode. -/
  | index (error : ErrCode)
  /-- The prefix integer of `SIZEUPD` does not decode. -/
  | newSize (error : ErrCode)
  /-- The name literal of a literal representation does not decode. -/
  | name (error : ErrCode)
  /-- The value literal of a literal representation does not decode. -/
  | value (name : NameRef) (error : ErrCode)
  /-- A string literal on its own does not decode. -/
  | string (error : ErrCode)
  /-- Four strides and no leaf; no payload leads here (42_huffman R173 (a)). -/
  | noCode
deriving DecidableEq, Repr

/-- The frame of `STR.DEC` (41_string R151 steps 1 to 5): the flag H and the payload as it stands on the wire, and the
number of octets of the literal. Step 6, the Huffman decoding, is `literalText` of Machine/Operands.lean. -/
def decodeString (lim : Limits) (bs : Octets) : Except ErrCode (StrLit × Nat) :=
  match intDec lim bs stringWidth with
  | .error e => .error e
  | .ok (q, pfx, len) =>
    if lim.strLenMax < len then .error .stringLiteralLengthTooLong
    else if bs.length - q < len then .error .truncated
    else .ok (⟨hFlag pfx, (bs.drop q).take len⟩, q + len)

/-- The value literal of a literal representation, `used` octets after its first (45_dispatch R239 step 3). -/
def decodeValue (lim : Limits) (bs : Octets) (kind : LiteralKind) (name : NameRef) (used : Nat) :
    Except Reject (Instr × Nat) :=
  match decodeString lim (bs.drop used) with
  | .error e => .error (.value name e)
  | .ok (value, count) => .ok (literalInstr kind name value, used + count)

/-- A literal representation (45_dispatch R239 steps 1 to 3, 30_encoding R93). -/
def decodeLiteral (lim : Limits) (bs : Octets) (kind : LiteralKind) : Except Reject (Instr × Nat) :=
  match intDec lim bs (literalWidth kind) with
  | .error e => .error (.index e)
  | .ok (p, _, index) =>
    if index = 0 then
      match decodeString lim (bs.drop p) with
      | .error e => .error (.name e)
      | .ok (lit, count) => decodeValue lim bs kind (.literal lit) (p + count)
    else decodeValue lim bs kind (.byIndex index) p

/-- The decoder of the DISP unit (45_dispatch R237): the representation at the front of the octets, and the number of
octets it occupies. -/
def decodeRep (lim : Limits) (bs : Octets) : Except Reject (Instr × Nat) :=
  match bs with
  | [] => .error .noOctet
  | b :: _ =>
    match repKind b with
    | .indexed =>
      match intDec lim bs indexedWidth with
      | .error e => .error (.index e)
      | .ok (p, _, index) => .ok (.indexed index, p)
    | .literal kind => decodeLiteral lim bs kind
    | .sizeUpdate =>
      match intDec lim bs sizeUpdateWidth with
      | .error e => .error (.newSize e)
      | .ok (p, _, new) => .ok (.sizeupd new, p)

/-- The instruction of a string literal on its own: `STR.RAW` or `STR.HUFF` by the flag H. -/
def stringInstr (lit : StrLit) : Instr := if lit.huffman then .strHuff lit.payload else .strRaw lit.payload

/-- The decoder of the STR unit (41_string R151): the literal at the front of the octets, and its number of octets. -/
def decodeStr (lim : Limits) (bs : Octets) : Except Reject (Instr × Nat) :=
  match decodeString lim bs with
  | .error e => .error (.string e)
  | .ok (lit, count) => .ok (stringInstr lit, count)

/-- The rows HUFF.0 to HUFF.31. -/
def huffInstrs0 : List Instr :=
  [.huff0, .huff1, .huff2, .huff3, .huff4, .huff5, .huff6, .huff7,
   .huff8, .huff9, .huff10, .huff11, .huff12, .huff13, .huff14, .huff15,
   .huff16, .huff17, .huff18, .huff19, .huff20, .huff21, .huff22, .huff23,
   .huff24, .huff25, .huff26, .huff27, .huff28, .huff29, .huff30, .huff31]

/-- The rows HUFF.32 to HUFF.63. -/
def huffInstrs32 : List Instr :=
  [.huff32, .huff33, .huff34, .huff35, .huff36, .huff37, .huff38, .huff39,
   .huff40, .huff41, .huff42, .huff43, .huff44, .huff45, .huff46, .huff47,
   .huff48, .huff49, .huff50, .huff51, .huff52, .huff53, .huff54, .huff55,
   .huff56, .huff57, .huff58, .huff59, .huff60, .huff61, .huff62, .huff63]

/-- The rows HUFF.64 to HUFF.95. -/
def huffInstrs64 : List Instr :=
  [.huff64, .huff65, .huff66, .huff67, .huff68, .huff69, .huff70, .huff71,
   .huff72, .huff73, .huff74, .huff75, .huff76, .huff77, .huff78, .huff79,
   .huff80, .huff81, .huff82, .huff83, .huff84, .huff85, .huff86, .huff87,
   .huff88, .huff89, .huff90, .huff91, .huff92, .huff93, .huff94, .huff95]

/-- The rows HUFF.96 to HUFF.127. -/
def huffInstrs96 : List Instr :=
  [.huff96, .huff97, .huff98, .huff99, .huff100, .huff101, .huff102, .huff103,
   .huff104, .huff105, .huff106, .huff107, .huff108, .huff109, .huff110, .huff111,
   .huff112, .huff113, .huff114, .huff115, .huff116, .huff117, .huff118, .huff119,
   .huff120, .huff121, .huff122, .huff123, .huff124, .huff125, .huff126, .huff127]

/-- The rows HUFF.128 to HUFF.159. -/
def huffInstrs128 : List Instr :=
  [.huff128, .huff129, .huff130, .huff131, .huff132, .huff133, .huff134, .huff135,
   .huff136, .huff137, .huff138, .huff139, .huff140, .huff141, .huff142, .huff143,
   .huff144, .huff145, .huff146, .huff147, .huff148, .huff149, .huff150, .huff151,
   .huff152, .huff153, .huff154, .huff155, .huff156, .huff157, .huff158, .huff159]

/-- The rows HUFF.160 to HUFF.191. -/
def huffInstrs160 : List Instr :=
  [.huff160, .huff161, .huff162, .huff163, .huff164, .huff165, .huff166, .huff167,
   .huff168, .huff169, .huff170, .huff171, .huff172, .huff173, .huff174, .huff175,
   .huff176, .huff177, .huff178, .huff179, .huff180, .huff181, .huff182, .huff183,
   .huff184, .huff185, .huff186, .huff187, .huff188, .huff189, .huff190, .huff191]

/-- The rows HUFF.192 to HUFF.223. -/
def huffInstrs192 : List Instr :=
  [.huff192, .huff193, .huff194, .huff195, .huff196, .huff197, .huff198, .huff199,
   .huff200, .huff201, .huff202, .huff203, .huff204, .huff205, .huff206, .huff207,
   .huff208, .huff209, .huff210, .huff211, .huff212, .huff213, .huff214, .huff215,
   .huff216, .huff217, .huff218, .huff219, .huff220, .huff221, .huff222, .huff223]

/-- The rows HUFF.224 to HUFF.255. -/
def huffInstrs224 : List Instr :=
  [.huff224, .huff225, .huff226, .huff227, .huff228, .huff229, .huff230, .huff231,
   .huff232, .huff233, .huff234, .huff235, .huff236, .huff237, .huff238, .huff239,
   .huff240, .huff241, .huff242, .huff243, .huff244, .huff245, .huff246, .huff247,
   .huff248, .huff249, .huff250, .huff251, .huff252, .huff253, .huff254, .huff255]

/-- The rows HUFF.0 to HUFF.255, in the order of their symbols (43_huffman_table R201). -/
def huffInstrs : List Instr :=
  huffInstrs0 ++ huffInstrs32 ++ huffInstrs64 ++ huffInstrs96 ++ huffInstrs128 ++ huffInstrs160 ++ huffInstrs192 ++ huffInstrs224

/-- The instruction of a symbol. -/
def huffInstr (sym : Nat) : Instr := huffInstrs.getD sym .huffEOS

/-- The decoder of the HUFF unit (42_huffman R176 lines 3 to 9): the row whose code the walk from a bit position
reaches. An empty slot is where the EOS code lies (R173 (c), R174; notes/assumptions/14.md). -/
def decodeCode (S : Octets) (bitpos : Nat) : Except Reject Instr :=
  match walk (window S bitpos) with
  | .leaf sym _ => .ok (huffInstr sym)
  | .empty => .ok .huffEOS
  | .exhausted => .error .noCode

/-- The instruction at the front of the octets, for the unit that reads it. -/
def decodeFor (u : DecodeUnit) (lim : Limits) (bs : Octets) : Except Reject Instr :=
  match u with
  | .representation => (decodeRep lim bs).map Prod.fst
  | .string => (decodeStr lim bs).map Prod.fst
  | .huffman => decodeCode bs 0

/-! ### Encoding -/

/-- The unit that reads an instruction. -/
def Instr.unit (i : Instr) : DecodeUnit :=
  match i.form with
  | .indexed _ => .representation
  | .literal _ _ _ => .representation
  | .sizeUpdate _ => .representation
  | .string _ => .string
  | .code _ => .huffman

/-- A string literal's octets (30_encoding R97, 47_encoder R293). -/
def encodeString (lit : StrLit) : Octets :=
  intEnc lit.payload.length stringWidth (hFlagOctet lit.huffman) ++ lit.payload

/-- The octets of a name operand under the type bits of its representation (30_encoding R93). -/
def encodeName (kind : LiteralKind) : NameRef → Octets
  | .byIndex index => intEnc index (literalWidth kind) (literalTypeBits kind)
  | .literal lit => intEnc 0 (literalWidth kind) (literalTypeBits kind) ++ encodeString lit

/-- The octets of a Huffman code on its own: its bits, padded with one-bits (30_encoding R98). -/
def encodeCode (sym : Nat) : Octets := packBits (padBits (codeBits (huffCodeOf sym)))

/-- The octets of an instruction; every integer in its shortest form (30_encoding R104). -/
def encode (i : Instr) : Octets :=
  match i.form with
  | .indexed index => intEnc index indexedWidth indexedTypeBits
  | .literal kind name value => encodeName kind name ++ encodeString value
  | .sizeUpdate new => intEnc new sizeUpdateWidth sizeUpdateTypeBits
  | .string lit => encodeString lit
  | .code sym => encodeCode sym

/-! ### What the limits admit -/

/-- The limits admit the shortest form of a value under an N-bit prefix (40_integer R138): the value is at most
`INT_VALUE_MAX` and its form at most `INT_ENC_LEN_MAX` octets, a single octet always. -/
def Limits.admitsInt (lim : Limits) (v width : Nat) : Bool :=
  decide (v ≤ lim.intValueMax) && decide ((intEnc v width 0).length ≤ max 1 lim.intEncLenMax)

/-- The limits admit a string literal (47_encoder R303). -/
def Limits.admitsString (lim : Limits) (lit : StrLit) : Bool :=
  decide (lit.payload.length ≤ lim.strLenMax) && lim.admitsInt lit.payload.length stringWidth

/-- The limits admit a name operand. -/
def Limits.admitsName (lim : Limits) (kind : LiteralKind) : NameRef → Bool
  | .byIndex index => lim.admitsInt index (literalWidth kind)
  | .literal lit => lim.admitsInt 0 (literalWidth kind) && lim.admitsString lit

/-- The limits admit every integer and every string of an instruction's encoding. -/
def Limits.admits (lim : Limits) (i : Instr) : Bool :=
  match i.form with
  | .indexed index => lim.admitsInt index indexedWidth
  | .literal kind name value => lim.admitsName kind name && lim.admitsString value
  | .sizeUpdate new => lim.admitsInt new sizeUpdateWidth
  | .string lit => lim.admitsString lit
  | .code _ => true

/-! ### Words of the opcode table -/

/-- The reset values of the three limits (10_state R39). -/
def resetLimits : Limits :=
  ⟨Config.intValueMaxReset, Config.intEncLenMaxReset, Config.strLenMaxReset⟩

/-- The Huffman row that a word of `nbits` bits is, if any: a code of at least one octet whose bits, read as a number,
are the word, `nbits` being its length in whole octets (notes/assumptions/16.md). -/
def tableCode (nbits w : Nat) : Option HuffCode :=
  huffCodeTable.find? fun c => decide (8 ≤ c.len) && (c.len + 7) / 8 * 8 == nbits && c.code == w

/-- The octets of a word, its first octet in bits 7..0. -/
def wordOctets (nbits w : Nat) : Octets :=
  (List.range (nbits / 8)).map fun k => BitVec.ofNat 8 (w >>> (8 * k))

/-- The octets of a Huffman code laid out as a payload: most significant bit first, the rest zero (20_memory R65). -/
def codeWordOctets (nbits : Nat) (c : HuffCode) : Octets :=
  (List.range (nbits / 8)).map fun k => BitVec.ofNat 8 ((c.code <<< (nbits - c.len)) >>> (nbits - 8 - 8 * k))

/-- The unit and the octets of a word of the opcode table. A representation is followed by two zero octets, the most
a representation can need when all its bits above the word are zero (notes/assumptions/16.md). -/
def tableFetch (nbits w : Nat) : DecodeUnit × Octets :=
  match tableCode nbits w with
  | some c => (.huffman, codeWordOctets nbits c)
  | none => (.representation, wordOctets nbits w ++ [0, 0])

/-- The instruction the decoder reads from a word of the opcode table. -/
def decodeTableWord (nbits w : Nat) : Option Instr :=
  match decodeFor (tableFetch nbits w).1 resetLimits (tableFetch nbits w).2 with
  | .ok i => some i
  | .error _ => none

end Sys2Proof
end

