-- ==== Sys2Proof/Machine/Operands.lean ====
section
/-!
DEFINITION. The operand forms of the representations (30_encoding R95): the text of a string literal (41_string R151
step 6), the name operand by index or by literal (45_dispatch R239 step 2), and which error a representation reports
that does not decode (60_exceptions R332).
-/

namespace Sys2Proof.Machine

/-- The string a literal stands for: its payload, Huffman-decoded when H = 1 (41_string R151 step 6). -/
def literalText (lit : StrLit) : Except ErrCode Octets :=
  if lit.huffman then huffDec lit.payload else .ok lit.payload

/-- The name a name operand stands for: of the joint table's entry, or of the literal (45_dispatch R239 step 2). -/
def resolveName (t : Table) : NameRef → Except ErrCode Octets
  | .byIndex index =>
    match t.get index with
    | .error e => .error e
    | .ok entry => .ok entry.name
  | .literal lit => literalText lit

/-- `STR.DEC` (41_string R151), the frame and the text: the number of octets of the literal and the decoded string. -/
def strDec (lim : Limits) (bs : Octets) : Except ErrCode (Nat × Octets) :=
  match decodeString lim bs with
  | .error e => .error e
  | .ok (lit, count) =>
    match literalText lit with
    | .error e => .error e
    | .ok text => .ok (count, text)

/-- The error that a representation raises whose octets do not decode. The order of the tests is 60_exceptions R332's:
a size update out of order before the errors of its integer; the errors of a literal's name before those of its
value (notes/assumptions/15.md). A run never decodes at the end of its block, so there is always an octet
(45_dispatch R237). -/
def rejectError (phase : Phase) (t : Table) : Reject → ErrCode
  | .noOctet => .truncated
  | .index e => e
  | .newSize e => if sizeUpdateInOrder phase then e else .sizeUpdateOutOfOrder
  | .name e => e
  | .value name e =>
    match resolveName t name with
    | .error e' => e'
    | .ok _ => e
  | .string e => e
  | .noCode => .huffmanDecodeFailure

end Sys2Proof.Machine
end

