-- ==== Sys2Proof/Machine/Representations.lean ====
section
/-!
DEFINITION. The five representations (45_dispatch R238 to R244). The decoder has read the operands and `POS` stands
just past the representation (`State.advance`). An error is taken as 60_exceptions R330 describes it.
-/

namespace Sys2Proof.Machine

/-- The body the three literal representations share, `LIT(N, insert, sens)` after its operands are read (45_dispatch
R239 steps 2 to 6): the name, then the value, then the header, then the insert. -/
def literalBody (insert sensitive : Bool) (name : NameRef) (value : StrLit) (s : State) :
    Host.Outcome State Fault Refusal :=
  match resolveName s.table name with
  | .error e => .next (s.raise e)
  | .ok n =>
    match literalText value with
    | .error e => .next (s.raise e)
    | .ok v =>
      let emitted := s.emit ⟨n, v, sensitive⟩
      .next (if insert then emitted.insert ⟨n, v⟩ else emitted).endField

/-- `INDEXED` (45_dispatch R238). -/
def execIndexed (index : Nat) (s : State) : Host.Outcome State Fault Refusal :=
  if index = 0 then .next (s.raise .invalidIndex)
  else
    match s.table.get index with
    | .error e => .next (s.raise e)
    | .ok entry => .next (s.emit ⟨entry.name, entry.value, false⟩).endField

/-- `LITINC`: `LIT(6, insert = true, sens = false)` (45_dispatch R240). -/
def execLitinc (name : NameRef) (value : StrLit) (s : State) : Host.Outcome State Fault Refusal :=
  literalBody true false name value s

/-- `SIZEUPD` (45_dispatch R244). -/
def execSizeupd (new : Nat) (s : State) : Host.Outcome State Fault Refusal :=
  if sizeUpdateInOrder s.phase then
    if s.protoMax < new then .next (s.raise .sizeUpdateTooLarge)
    else .next (s.endSizeUpdate new)
  else .next (s.raise .sizeUpdateOutOfOrder)

/-- `LITNEVER`: `LIT(4, insert = false, sens = true)` (45_dispatch R242). -/
def execLitnever (name : NameRef) (value : StrLit) (s : State) : Host.Outcome State Fault Refusal :=
  literalBody false true name value s

/-- `LITNOIDX`: `LIT(4, insert = false, sens = false)` (45_dispatch R241). -/
def execLitnoidx (name : NameRef) (value : StrLit) (s : State) : Host.Outcome State Fault Refusal :=
  literalBody false false name value s

end Sys2Proof.Machine
end

