-- ==== Sys2Proof/Machine/Strings.lean ====
section
/-!
DEFINITION. The two string-literal heads on their own (41_string R150, R151): the STR unit returns the offset just
past the literal and its string, and writes no register and no table. Inside a literal representation the same
operations are `decodeString` and `literalText` (notes/assumptions/13.md).
-/

namespace Sys2Proof.Machine

/-- A string literal's result (41_string R151 steps 6 and 7): its text, or the error of its Huffman decoding. -/
def stringBody (lit : StrLit) (s : State) : Host.Outcome State Fault Refusal :=
  match literalText lit with
  | .error e => .next (s.primitiveError e)
  | .ok text => .next (s.answer (.string s.stringOffset text))

/-- `STR.RAW`: the payload taken verbatim (41_string R151 step 6, H = 0). -/
def execStrRaw (payload : Octets) (s : State) : Host.Outcome State Fault Refusal :=
  stringBody ⟨false, payload⟩ s

/-- `STR.HUFF`: the payload Huffman-decoded (41_string R151 step 6, H = 1). -/
def execStrHuff (payload : Octets) (s : State) : Host.Outcome State Fault Refusal :=
  stringBody ⟨true, payload⟩ s

end Sys2Proof.Machine
end

