-- ==== Sys2Proof/Machine/Dispatch.lean ====
section
/-! DEFINITION. One arm per instruction, each one call of its meaning. -/

namespace Sys2Proof.Machine

def exec (i : Instr) (s : State) : Host.Outcome State Fault Refusal :=
  match i with
  | .indexed index => Sys2Proof.Machine.execIndexed index s
  | .litinc name value => Sys2Proof.Machine.execLitinc name value s
  | .sizeupd new => Sys2Proof.Machine.execSizeupd new s
  | .litnever name value => Sys2Proof.Machine.execLitnever name value s
  | .litnoidx name value => Sys2Proof.Machine.execLitnoidx name value s
  | .strRaw payload => Sys2Proof.Machine.execStrRaw payload s
  | .strHuff payload => Sys2Proof.Machine.execStrHuff payload s
  | .huff0 => Sys2Proof.Machine.execHuff0 s
  | .huff1 => Sys2Proof.Machine.execHuff1 s
  | .huff2 => Sys2Proof.Machine.execHuff2 s
  | .huff3 => Sys2Proof.Machine.execHuff3 s
  | .huff4 => Sys2Proof.Machine.execHuff4 s
  | .huff5 => Sys2Proof.Machine.execHuff5 s
  | .huff6 => Sys2Proof.Machine.execHuff6 s
  | .huff7 => Sys2Proof.Machine.execHuff7 s
  | .huff8 => Sys2Proof.Machine.execHuff8 s
  | .huff9 => Sys2Proof.Machine.execHuff9 s
  | .huff10 => Sys2Proof.Machine.execHuff10 s
  | .huff11 => Sys2Proof.Machine.execHuff11 s
  | .huff12 => Sys2Proof.Machine.execHuff12 s
  | .huff13 => Sys2Proof.Machine.execHuff13 s
  | .huff14 => Sys2Proof.Machine.execHuff14 s
  | .huff15 => Sys2Proof.Machine.execHuff15 s
  | .huff16 => Sys2Proof.Machine.execHuff16 s
  | .huff17 => Sys2Proof.Machine.execHuff17 s
  | .huff18 => Sys2Proof.Machine.execHuff18 s
  | .huff19 => Sys2Proof.Machine.execHuff19 s
  | .huff20 => Sys2Proof.Machine.execHuff20 s
  | .huff21 => Sys2Proof.Machine.execHuff21 s
  | .huff22 => Sys2Proof.Machine.execHuff22 s
  | .huff23 => Sys2Proof.Machine.execHuff23 s
  | .huff24 => Sys2Proof.Machine.execHuff24 s
  | .huff25 => Sys2Proof.Machine.execHuff25 s
  | .huff26 => Sys2Proof.Machine.execHuff26 s
  | .huff27 => Sys2Proof.Machine.execHuff27 s
  | .huff28 => Sys2Proof.Machine.execHuff28 s
  | .huff29 => Sys2Proof.Machine.execHuff29 s
  | .huff30 => Sys2Proof.Machine.execHuff30 s
  | .huff31 => Sys2Proof.Machine.execHuff31 s
  | .huff32 => Sys2Proof.Machine.execHuff32 s
  | .huff33 => Sys2Proof.Machine.execHuff33 s
  | .huff34 => Sys2Proof.Machine.execHuff34 s
  | .huff35 => Sys2Proof.Machine.execHuff35 s
  | .huff36 => Sys2Proof.Machine.execHuff36 s
  | .huff37 => Sys2Proof.Machine.execHuff37 s
  | .huff38 => Sys2Proof.Machine.execHuff38 s
  | .huff39 => Sys2Proof.Machine.execHuff39 s
  | .huff40 => Sys2Proof.Machine.execHuff40 s
  | .huff41 => Sys2Proof.Machine.execHuff41 s
  | .huff42 => Sys2Proof.Machine.execHuff42 s
  | .huff43 => Sys2Proof.Machine.execHuff43 s
  | .huff44 => Sys2Proof.Machine.execHuff44 s
  | .huff45 => Sys2Proof.Machine.execHuff45 s
  | .huff46 => Sys2Proof.Machine.execHuff46 s
  | .huff47 => Sys2Proof.Machine.execHuff47 s
  | .huff48 => Sys2Proof.Machine.execHuff48 s
  | .huff49 => Sys2Proof.Machine.execHuff49 s
  | .huff50 => Sys2Proof.Machine.execHuff50 s
  | .huff51 => Sys2Proof.Machine.execHuff51 s
  | .huff52 => Sys2Proof.Machine.execHuff52 s
  | .huff53 => Sys2Proof.Machine.execHuff53 s
  | .huff54 => Sys2Proof.Machine.execHuff54 s
  | .huff55 => Sys2Proof.Machine.execHuff55 s
  | .huff56 => Sys2Proof.Machine.execHuff56 s
  | .huff57 => Sys2Proof.Machine.execHuff57 s
  | .huff58 => Sys2Proof.Machine.execHuff58 s
  | .huff59 => Sys2Proof.Machine.execHuff59 s
  | .huff60 => Sys2Proof.Machine.execHuff60 s
  | .huff61 => Sys2Proof.Machine.execHuff61 s
  | .huff62 => Sys2Proof.Machine.execHuff62 s
  | .huff63 => Sys2Proof.Machine.execHuff63 s
  | .huff64 => Sys2Proof.Machine.execHuff64 s
  | .huff65 => Sys2Proof.Machine.execHuff65 s
  | .huff66 => Sys2Proof.Machine.execHuff66 s
  | .huff67 => Sys2Proof.Machine.execHuff67 s
  | .huff68 => Sys2Proof.Machine.execHuff68 s
  | .huff69 => Sys2Proof.Machine.execHuff69 s
  | .huff70 => Sys2Proof.Machine.execHuff70 s
  | .huff71 => Sys2Proof.Machine.execHuff71 s
  | .huff72 => Sys2Proof.Machine.execHuff72 s
  | .huff73 => Sys2Proof.Machine.execHuff73 s
  | .huff74 => Sys2Proof.Machine.execHuff74 s
  | .huff75 => Sys2Proof.Machine.execHuff75 s
  | .huff76 => Sys2Proof.Machine.execHuff76 s
  | .huff77 => Sys2Proof.Machine.execHuff77 s
  | .huff78 => Sys2Proof.Machine.execHuff78 s
  | .huff79 => Sys2Proof.Machine.execHuff79 s
  | .huff80 => Sys2Proof.Machine.execHuff80 s
  | .huff81 => Sys2Proof.Machine.execHuff81 s
  | .huff82 => Sys2Proof.Machine.execHuff82 s
  | .huff83 => Sys2Proof.Machine.execHuff83 s
  | .huff84 => Sys2Proof.Machine.execHuff84 s
  | .huff85 => Sys2Proof.Machine.execHuff85 s
  | .huff86 => Sys2Proof.Machine.execHuff86 s
  | .huff87 => Sys2Proof.Machine.execHuff87 s
  | .huff88 => Sys2Proof.Machine.execHuff88 s
  | .huff89 => Sys2Proof.Machine.execHuff89 s
  | .huff90 => Sys2Proof.Machine.execHuff90 s
  | .huff91 => Sys2Proof.Machine.execHuff91 s
  | .huff92 => Sys2Proof.Machine.execHuff92 s
  | .huff93 => Sys2Proof.Machine.execHuff93 s
  | .huff94 => Sys2Proof.Machine.execHuff94 s
  | .huff95 => Sys2Proof.Machine.execHuff95 s
  | .huff96 => Sys2Proof.Machine.execHuff96 s
  | .huff97 => Sys2Proof.Machine.execHuff97 s
  | .huff98 => Sys2Proof.Machine.execHuff98 s
  | .huff99 => Sys2Proof.Machine.execHuff99 s
  | .huff100 => Sys2Proof.Machine.execHuff100 s
  | .huff101 => Sys2Proof.Machine.execHuff101 s
  | .huff102 => Sys2Proof.Machine.execHuff102 s
  | .huff103 => Sys2Proof.Machine.execHuff103 s
  | .huff104 => Sys2Proof.Machine.execHuff104 s
  | .huff105 => Sys2Proof.Machine.execHuff105 s
  | .huff106 => Sys2Proof.Machine.execHuff106 s
  | .huff107 => Sys2Proof.Machine.execHuff107 s
  | .huff108 => Sys2Proof.Machine.execHuff108 s
  | .huff109 => Sys2Proof.Machine.execHuff109 s
  | .huff110 => Sys2Proof.Machine.execHuff110 s
  | .huff111 => Sys2Proof.Machine.execHuff111 s
  | .huff112 => Sys2Proof.Machine.execHuff112 s
  | .huff113 => Sys2Proof.Machine.execHuff113 s
  | .huff114 => Sys2Proof.Machine.execHuff114 s
  | .huff115 => Sys2Proof.Machine.execHuff115 s
  | .huff116 => Sys2Proof.Machine.execHuff116 s
  | .huff117 => Sys2Proof.Machine.execHuff117 s
  | .huff118 => Sys2Proof.Machine.execHuff118 s
  | .huff119 => Sys2Proof.Machine.execHuff119 s
  | .huff120 => Sys2Proof.Machine.execHuff120 s
  | .huff121 => Sys2Proof.Machine.execHuff121 s
  | .huff122 => Sys2Proof.Machine.execHuff122 s
  | .huff123 => Sys2Proof.Machine.execHuff123 s
  | .huff124 => Sys2Proof.Machine.execHuff124 s
  | .huff125 => Sys2Proof.Machine.execHuff125 s
  | .huff126 => Sys2Proof.Machine.execHuff126 s
  | .huff127 => Sys2Proof.Machine.execHuff127 s
  | .huff128 => Sys2Proof.Machine.execHuff128 s
  | .huff129 => Sys2Proof.Machine.execHuff129 s
  | .huff130 => Sys2Proof.Machine.execHuff130 s
  | .huff131 => Sys2Proof.Machine.execHuff131 s
  | .huff132 => Sys2Proof.Machine.execHuff132 s
  | .huff133 => Sys2Proof.Machine.execHuff133 s
  | .huff134 => Sys2Proof.Machine.execHuff134 s
  | .huff135 => Sys2Proof.Machine.execHuff135 s
  | .huff136 => Sys2Proof.Machine.execHuff136 s
  | .huff137 => Sys2Proof.Machine.execHuff137 s
  | .huff138 => Sys2Proof.Machine.execHuff138 s
  | .huff139 => Sys2Proof.Machine.execHuff139 s
  | .huff140 => Sys2Proof.Machine.execHuff140 s
  | .huff141 => Sys2Proof.Machine.execHuff141 s
  | .huff142 => Sys2Proof.Machine.execHuff142 s
  | .huff143 => Sys2Proof.Machine.execHuff143 s
  | .huff144 => Sys2Proof.Machine.execHuff144 s
  | .huff145 => Sys2Proof.Machine.execHuff145 s
  | .huff146 => Sys2Proof.Machine.execHuff146 s
  | .huff147 => Sys2Proof.Machine.execHuff147 s
  | .huff148 => Sys2Proof.Machine.execHuff148 s
  | .huff149 => Sys2Proof.Machine.execHuff149 s
  | .huff150 => Sys2Proof.Machine.execHuff150 s
  | .huff151 => Sys2Proof.Machine.execHuff151 s
  | .huff152 => Sys2Proof.Machine.execHuff152 s
  | .huff153 => Sys2Proof.Machine.execHuff153 s
  | .huff154 => Sys2Proof.Machine.execHuff154 s
  | .huff155 => Sys2Proof.Machine.execHuff155 s
  | .huff156 => Sys2Proof.Machine.execHuff156 s
  | .huff157 => Sys2Proof.Machine.execHuff157 s
  | .huff158 => Sys2Proof.Machine.execHuff158 s
  | .huff159 => Sys2Proof.Machine.execHuff159 s
  | .huff160 => Sys2Proof.Machine.execHuff160 s
  | .huff161 => Sys2Proof.Machine.execHuff161 s
  | .huff162 => Sys2Proof.Machine.execHuff162 s
  | .huff163 => Sys2Proof.Machine.execHuff163 s
  | .huff164 => Sys2Proof.Machine.execHuff164 s
  | .huff165 => Sys2Proof.Machine.execHuff165 s
  | .huff166 => Sys2Proof.Machine.execHuff166 s
  | .huff167 => Sys2Proof.Machine.execHuff167 s
  | .huff168 => Sys2Proof.Machine.execHuff168 s
  | .huff169 => Sys2Proof.Machine.execHuff169 s
  | .huff170 => Sys2Proof.Machine.execHuff170 s
  | .huff171 => Sys2Proof.Machine.execHuff171 s
  | .huff172 => Sys2Proof.Machine.execHuff172 s
  | .huff173 => Sys2Proof.Machine.execHuff173 s
  | .huff174 => Sys2Proof.Machine.execHuff174 s
  | .huff175 => Sys2Proof.Machine.execHuff175 s
  | .huff176 => Sys2Proof.Machine.execHuff176 s
  | .huff177 => Sys2Proof.Machine.execHuff177 s
  | .huff178 => Sys2Proof.Machine.execHuff178 s
  | .huff179 => Sys2Proof.Machine.execHuff179 s
  | .huff180 => Sys2Proof.Machine.execHuff180 s
  | .huff181 => Sys2Proof.Machine.execHuff181 s
  | .huff182 => Sys2Proof.Machine.execHuff182 s
  | .huff183 => Sys2Proof.Machine.execHuff183 s
  | .huff184 => Sys2Proof.Machine.execHuff184 s
  | .huff185 => Sys2Proof.Machine.execHuff185 s
  | .huff186 => Sys2Proof.Machine.execHuff186 s
  | .huff187 => Sys2Proof.Machine.execHuff187 s
  | .huff188 => Sys2Proof.Machine.execHuff188 s
  | .huff189 => Sys2Proof.Machine.execHuff189 s
  | .huff190 => Sys2Proof.Machine.execHuff190 s
  | .huff191 => Sys2Proof.Machine.execHuff191 s
  | .huff192 => Sys2Proof.Machine.execHuff192 s
  | .huff193 => Sys2Proof.Machine.execHuff193 s
  | .huff194 => Sys2Proof.Machine.execHuff194 s
  | .huff195 => Sys2Proof.Machine.execHuff195 s
  | .huff196 => Sys2Proof.Machine.execHuff196 s
  | .huff197 => Sys2Proof.Machine.execHuff197 s
  | .huff198 => Sys2Proof.Machine.execHuff198 s
  | .huff199 => Sys2Proof.Machine.execHuff199 s
  | .huff200 => Sys2Proof.Machine.execHuff200 s
  | .huff201 => Sys2Proof.Machine.execHuff201 s
  | .huff202 => Sys2Proof.Machine.execHuff202 s
  | .huff203 => Sys2Proof.Machine.execHuff203 s
  | .huff204 => Sys2Proof.Machine.execHuff204 s
  | .huff205 => Sys2Proof.Machine.execHuff205 s
  | .huff206 => Sys2Proof.Machine.execHuff206 s
  | .huff207 => Sys2Proof.Machine.execHuff207 s
  | .huff208 => Sys2Proof.Machine.execHuff208 s
  | .huff209 => Sys2Proof.Machine.execHuff209 s
  | .huff210 => Sys2Proof.Machine.execHuff210 s
  | .huff211 => Sys2Proof.Machine.execHuff211 s
  | .huff212 => Sys2Proof.Machine.execHuff212 s
  | .huff213 => Sys2Proof.Machine.execHuff213 s
  | .huff214 => Sys2Proof.Machine.execHuff214 s
  | .huff215 => Sys2Proof.Machine.execHuff215 s
  | .huff216 => Sys2Proof.Machine.execHuff216 s
  | .huff217 => Sys2Proof.Machine.execHuff217 s
  | .huff218 => Sys2Proof.Machine.execHuff218 s
  | .huff219 => Sys2Proof.Machine.execHuff219 s
  | .huff220 => Sys2Proof.Machine.execHuff220 s
  | .huff221 => Sys2Proof.Machine.execHuff221 s
  | .huff222 => Sys2Proof.Machine.execHuff222 s
  | .huff223 => Sys2Proof.Machine.execHuff223 s
  | .huff224 => Sys2Proof.Machine.execHuff224 s
  | .huff225 => Sys2Proof.Machine.execHuff225 s
  | .huff226 => Sys2Proof.Machine.execHuff226 s
  | .huff227 => Sys2Proof.Machine.execHuff227 s
  | .huff228 => Sys2Proof.Machine.execHuff228 s
  | .huff229 => Sys2Proof.Machine.execHuff229 s
  | .huff230 => Sys2Proof.Machine.execHuff230 s
  | .huff231 => Sys2Proof.Machine.execHuff231 s
  | .huff232 => Sys2Proof.Machine.execHuff232 s
  | .huff233 => Sys2Proof.Machine.execHuff233 s
  | .huff234 => Sys2Proof.Machine.execHuff234 s
  | .huff235 => Sys2Proof.Machine.execHuff235 s
  | .huff236 => Sys2Proof.Machine.execHuff236 s
  | .huff237 => Sys2Proof.Machine.execHuff237 s
  | .huff238 => Sys2Proof.Machine.execHuff238 s
  | .huff239 => Sys2Proof.Machine.execHuff239 s
  | .huff240 => Sys2Proof.Machine.execHuff240 s
  | .huff241 => Sys2Proof.Machine.execHuff241 s
  | .huff242 => Sys2Proof.Machine.execHuff242 s
  | .huff243 => Sys2Proof.Machine.execHuff243 s
  | .huff244 => Sys2Proof.Machine.execHuff244 s
  | .huff245 => Sys2Proof.Machine.execHuff245 s
  | .huff246 => Sys2Proof.Machine.execHuff246 s
  | .huff247 => Sys2Proof.Machine.execHuff247 s
  | .huff248 => Sys2Proof.Machine.execHuff248 s
  | .huff249 => Sys2Proof.Machine.execHuff249 s
  | .huff250 => Sys2Proof.Machine.execHuff250 s
  | .huff251 => Sys2Proof.Machine.execHuff251 s
  | .huff252 => Sys2Proof.Machine.execHuff252 s
  | .huff253 => Sys2Proof.Machine.execHuff253 s
  | .huff254 => Sys2Proof.Machine.execHuff254 s
  | .huff255 => Sys2Proof.Machine.execHuff255 s
  | .huffEOS => Sys2Proof.Machine.execHuffEOS s

end Sys2Proof.Machine
end

