-- ==== Sys2Proof/Machine/Encoder.lean ====
section
/-!
DEFINITION. The encode path: the lookup (47_encoder R292), `STR.ENC` (R293), the field rule `ENC.FIELD` (R295) and
the three encode commands over it (R296). The encoder has no limits and raises no error (R300).
-/

namespace Sys2Proof.Machine

/-- The result of a lookup (47_encoder R292). -/
inductive Lookup where
  | full (index : Nat)
  | nameOnly (index : Nat)
  | none
deriving DecidableEq, Repr

/-- The joint space in index order, index 1 first (47_encoder R292, 20_memory R63). -/
def jointEntries (t : Table) : List Entry := staticTable ++ t.entries

/-- `LOOKUP(name, value)` (47_encoder R292): the smallest index of an equal entry, else of an entry with that name. -/
def lookup (t : Table) (name value : Octets) : Lookup :=
  match (jointEntries t).findIdx? fun e => e.name == name && e.value == value with
  | some k => .full (k + 1)
  | none =>
    match (jointEntries t).findIdx? fun e => e.name == name with
    | some k => .nameOnly (k + 1)
    | none => .none

/-- `STATIC_NAME(name)` (47_encoder R292): the lowest static index with that name. -/
def staticName (name : Octets) : Option Nat := (staticTable.findIdx? fun e => e.name == name).map (· + 1)

/-- The string literal the encoder makes of a string, as the host's flag says (47_encoder R293 step 1). -/
def literalOf (text : Octets) (huffman : Bool) : StrLit := ⟨huffman, if huffman then huffEnc text else text⟩

/-- `STR.ENC(s, huffman)` (47_encoder R293). -/
def strEnc (text : Octets) (huffman : Bool) : Octets := encodeString (literalOf text huffman)

/-- The representation that `ENC.FIELD` emits for a header (47_encoder R295 steps 2 to 3d). -/
def fieldInstr (t : Table) (h : Header) (huffman : Bool) (policy : EncodePolicy) : Instr :=
  let value := literalOf h.value huffman
  let newName := NameRef.literal (literalOf h.name huffman)
  if h.sensitive then
    match staticName h.name with
    | some i => .litnever (.byIndex i) value
    | none => .litnever newName value
  else
    match lookup t h.name h.value, policy with
    | .full i, _ => .indexed i
    | .nameOnly i, .incremental => .litinc (.byIndex i) value
    | .nameOnly i, .notIndexed => .litnoidx (.byIndex i) value
    | .none, .incremental => .litinc newName value
    | .none, .notIndexed => .litnoidx newName value

/-- Whether `ENC.FIELD` inserts the header: not a sensitive one, not a full hit, and under the incremental policy
only (47_encoder R295 steps 2c, 3a, 3e). -/
def fieldInserts (t : Table) (h : Header) (policy : EncodePolicy) : Bool :=
  !h.sensitive && policy == .incremental &&
    match lookup t h.name h.value with
    | .full _ => false
    | .nameOnly _ => true
    | .none => true

/-- The pending size update in front of the next field (47_encoder R295 step 1). -/
def pendingUpdate (s : State) : Octets := if s.pending then encode (.sizeupd s.eTable.maxSize) else []

/-- `ENC.FIELD(h, huffman, policy)` (47_encoder R295): the octets, and the context after it. -/
def encField (h : Header) (huffman : Bool) (policy : EncodePolicy) (s : State) : Octets × State :=
  (pendingUpdate s ++ encode (fieldInstr s.eTable h huffman policy),
    { s with
      pending := false
      eTable := if fieldInserts s.eTable h policy then s.eTable.add ⟨h.name, h.value⟩ else s.eTable })

/-- The fields of `ENC.ENCODE`, in order: incremental indexing, Huffman on (47_encoder R296). -/
def encFields : List Header → State → Octets × State
  | [], s => ([], s)
  | h :: hs, s =>
    let first := encField h true .incremental s
    let rest := encFields hs first.2
    (first.1 ++ rest.1, rest.2)

end Sys2Proof.Machine
end

