-- ==== Sys2Proof/Machine/Commands.lean ====
section
/-!
DEFINITION. The host's commands (46_commands R265 to R279, 47_encoder R290, R291, R296, R297), one definition each:
admission (R269), then the effect and the reply. A command that is not admitted, or whose operand is out of range, is
answered `Refused` and has no effect (R279; notes/assumptions/10.md). `DEC.DECODE` and `HUFF.DEC` only start here:
their octets are worked through by the steps that follow (notes/assumptions/4.md).
-/

namespace Sys2Proof.Machine

/-- The decoder context exists and is healthy: what `DEC.DECODE`, `DEC.SET_MAX_SIZE` and the limit setters require
(46_commands R269). -/
def decAdmitted (s : State) : Bool := s.decLive && healthy s.err

/-- A value fits a scalar register (92_eei_decisions D2). -/
def fitsWord (n : Nat) : Bool := decide (n < Config.wordLimit)

/-- A table size the block accepts (92_eei_decisions D14). -/
def fitsTable (n : Nat) : Bool := decide (n ≤ Config.dtCapMax)

/-- The prefix width and the flag bits the integer commands accept (92_eei_decisions D23). -/
def widthOk (width : Nat) : Bool := decide (1 ≤ width) && decide (width ≤ 8)

/-- An admitted command with no result takes effect and is answered `OK`; another is refused (46_commands R279). -/
def State.perform (s : State) (admitted : Bool) (after : State) : State :=
  if admitted then after.answer .ok else s.answer .refused

/-- The effect of `DEC.INIT(max)`: every register of the decoder context (46_commands R266). -/
def State.initDecoder (s : State) (max : Nat) : State :=
  { s with
    decLive := true
    table := emptyTable max
    protoMax := max
    intValueMax := Config.intValueMaxReset
    intEncLenMax := Config.intEncLenMaxReset
    strLenMax := Config.strLenMaxReset
    phase := phaseAtStart
    pos := 0
    err := .ok
    out := [] }

/-- `DEC.INIT(max)` (46_commands R266). -/
def commandDecInit (max : Nat) (s : State) : State := s.perform (fitsTable max) (s.initDecoder max)

/-- The start of a run (45_dispatch R236 step 1): the block is in the buffer, `PHASE`, `POS` and `OUT` are set
afresh. -/
def State.startRun (s : State) (block : Octets) : State :=
  { s with
    phase := phaseAtStart
    pos := 0
    out := []
    block := Memory.ofBlock block
    len := block.length
    activity := .run }

/-- `DEC.DECODE(B, LEN)` (46_commands R267): admitted, it starts the run. -/
def commandDecDecode (block : Octets) (s : State) : State :=
  if decAdmitted s && fitsWord block.length then s.startRun block else s.answer .refused

/-- `DEC.SET_MAX_SIZE(n)` (46_commands R268): `DT.RESIZE(n)`, `PROTO_MAX` untouched (92_eei_decisions D13). -/
def commandDecSetMaxSize (n : Nat) (s : State) : State :=
  s.perform (decAdmitted s && fitsTable n)
    { s with
      table := s.table.resize n
      protoMax := if Config.setMaxUpdatesProto then n else s.protoMax }

/-- `DEC.SET_INT_VALUE_MAX(n)` (46_commands R270). -/
def commandDecSetIntValueMax (n : Nat) (s : State) : State :=
  s.perform (decAdmitted s && fitsWord n) { s with intValueMax := n }

/-- `DEC.SET_INT_ENC_LEN_MAX(n)` (46_commands R271). -/
def commandDecSetIntEncLenMax (n : Nat) (s : State) : State :=
  s.perform (decAdmitted s && fitsWord n) { s with intEncLenMax := n }

/-- `DEC.SET_STR_LEN_MAX(n)` (46_commands R272). -/
def commandDecSetStrLenMax (n : Nat) (s : State) : State :=
  s.perform (decAdmitted s && fitsWord n) { s with strLenMax := n }

/-- `INT.DEC(B, LEN, N)` as a command (46_commands R274): with the limits of the decoder context, `ERR` not looked at
(R278). -/
def commandIntDec (buffer : Octets) (width : Nat) (s : State) : State :=
  if s.decLive && fitsWord buffer.length && widthOk width then
    match intDec s.limits buffer width with
    | .error e => s.primitiveError e
    | .ok (next, flags, v) => s.answer (.integer next flags v)
  else s.answer .refused

/-- `INT.ENC(v, N, flags)` as a command (46_commands R275): no context needed, no limit read. -/
def commandIntEnc (v width : Nat) (flags : Octet) (s : State) : State :=
  if fitsWord v && widthOk width && flags &&& BitVec.ofNat 8 (prefixMax width) == 0 then
    s.answer (.octets (intEnc v width flags))
  else s.answer .refused

/-- `HUFF.DEC(S)` as a command (46_commands R276): it starts the HUFF unit; no context needed, no limit read
(notes/assumptions/17.md). -/
def commandHuffDec (payload : Octets) (s : State) : State :=
  if fitsWord payload.length then { s with activity := .huffman (huffStart payload) }
  else s.answer .refused

/-- `HUFF.ENC(s)` as a command (46_commands R277): no context needed. -/
def commandHuffEnc (text : Octets) (s : State) : State := s.answer (.octets (huffEnc text))

/-- The effect of `ENC.INIT(max)`: all four registers of the encoder context (47_encoder R290). -/
def State.initEncoder (s : State) (max : Nat) : State :=
  { s with encLive := true, eTable := emptyTable max, pending := false }

/-- `ENC.INIT(max)` (47_encoder R290). -/
def commandEncInit (max : Nat) (s : State) : State := s.perform (fitsTable max) (s.initEncoder max)

/-- `ENC.SET_MAX_SIZE(n)` (47_encoder R291): `DT.RESIZE(n)` on the encoder's table, then `PENDING` is set, whatever
`n` is. -/
def commandEncSetMaxSize (n : Nat) (s : State) : State :=
  s.perform (s.encLive && fitsTable n) { s with eTable := s.eTable.resize n, pending := true }

/-- An encode command: its octets go to the host; without an encoder context it is refused (47_encoder R297). -/
def State.encoded (s : State) (result : Octets × State) : State :=
  if s.encLive then result.2.answer (.octets result.1) else s.answer .refused

/-- `ENC.INDEXED(h, huffman)` (47_encoder R296). -/
def commandEncIndexed (h : Header) (huffman : Bool) (s : State) : State :=
  s.encoded (encField h huffman .incremental s)

/-- `ENC.NOINDEX(h, huffman)` (47_encoder R296). -/
def commandEncNoIndex (h : Header) (huffman : Bool) (s : State) : State :=
  s.encoded (encField h huffman .notIndexed s)

/-- `ENC.ENCODE(headers)` (47_encoder R296). -/
def commandEncEncode (headers : List Header) (s : State) : State := s.encoded (encFields headers s)

/-- What a command does when the block takes it. -/
def runCommand (c : Command) (s : State) : State :=
  match c with
  | .decInit max => commandDecInit max s
  | .decDecode block => commandDecDecode block s
  | .decSetMaxSize n => commandDecSetMaxSize n s
  | .decSetIntValueMax n => commandDecSetIntValueMax n s
  | .decSetIntEncLenMax n => commandDecSetIntEncLenMax n s
  | .decSetStrLenMax n => commandDecSetStrLenMax n s
  | .intDec buffer width => commandIntDec buffer width s
  | .intEnc v width flags => commandIntEnc v width flags s
  | .huffDec payload => commandHuffDec payload s
  | .huffEnc text => commandHuffEnc text s
  | .encInit max => commandEncInit max s
  | .encSetMaxSize n => commandEncSetMaxSize n s
  | .encIndexed h huffman => commandEncIndexed h huffman s
  | .encNoIndex h huffman => commandEncNoIndex h huffman s
  | .encEncode headers => commandEncEncode headers s

end Sys2Proof.Machine
end

