-- ==== Sys2Proof/Machine/Fetch.lean ====
section
/-!
DEFINITION. What the next step finds: a command of the host (46_commands R269), a representation of the block
(45_dispatch R236, R237), a string literal (41_string R151), a Huffman code (42_huffman R176); or the end of what is in
progress. And where a word of the opcode table is placed for the next step to run it.
-/

namespace Sys2Proof.Machine

/-- What the next step finds. -/
inductive Fetched where
  /-- An instruction, to be executed in the given state. -/
  | run (i : Instr) (s : State)
  /-- No instruction: the state after the step. -/
  | settled (s : State)

/-- The idle block takes the next command the host has issued; with none it holds its context (60_exceptions R342;
notes/assumptions/19.md). -/
def takeCommand (s : State) : State :=
  match s.commands with
  | [] => s
  | c :: rest => runCommand c { s with commands := rest }

/-- The end of a run: `PHASE <- Done`, and `OUT` goes to the host with status `OK` (45_dispatch R236 step 3). -/
def finishRun (s : State) : State := { s with phase := phaseAtEnd }.answer (.headers s.out)

/-- The next representation of a run, or its end (45_dispatch R236 step 2, R237). -/
def fetchRep (s : State) : Fetched :=
  if s.pos < s.len then
    match decodeRep s.limits (s.octetsFrom s.pos) with
    | .error r => .settled (s.raise (rejectError s.phase s.table r))
    | .ok (i, count) => .run i (s.advance count)
  else .settled (finishRun s)

/-- The string literal at an offset, for the STR unit on its own (41_string R151; notes/assumptions/13.md). -/
def fetchString (s : State) (offset : Nat) : Fetched :=
  match decodeStr s.limits (s.octetsFrom offset) with
  | .error r => .settled (s.primitiveError (rejectError s.phase s.table r))
  | .ok (i, count) => .run i { s with activity := .string (offset + count) }

/-- The next Huffman code of a `HUFF.DEC` command, or its end (42_huffman R176). -/
def fetchCode (s : State) (r : HuffRegs) : Fetched :=
  if huffAtEnd r then .settled (s.afterTurn (.finished r.text))
  else
    match decodeCode r.payload r.bitpos with
    | .error _ => .settled (s.afterTurn (huffUnmatched r))
    | .ok i => .run i s

/-- What the next step finds. -/
def fetch (s : State) : Fetched :=
  match s.activity with
  | .idle => .settled (takeCommand s)
  | .run => fetchRep s
  | .string offset => fetchString s offset
  | .huffman regs => fetchCode s regs

/-- The state in which the next step reads an instruction from the given octets, in the given unit: the octets are
the input buffer of a run at its first octet, or a string literal, or the payload of a `HUFF.DEC`
(notes/assumptions/3.md, 16.md). -/
def placeOctets (s : State) (u : DecodeUnit) (bs : Octets) : State :=
  match u with
  | .representation => { s with activity := .run, block := Memory.ofBlock bs, len := bs.length, pos := 0 }
  | .string => { s with activity := .string 0, block := Memory.ofBlock bs, len := bs.length }
  | .huffman => { s with activity := .huffman (huffStart bs) }

end Sys2Proof.Machine
end

