-- ==== Sys2Proof/Machine/Step.lean ====
section
/-!
DEFINITION. One step of the machine (00_scope R12): one representation of a run, one Huffman code of a `HUFF.DEC`
command, the end of either, or one command of the host.
-/

namespace Sys2Proof.Machine

/-- One step. -/
def step (s : State) : Host.Outcome State Fault Refusal :=
  match fetch s with
  | .run i s' => exec i s'
  | .settled s' => .next s'

/-- The state with a word of the opcode table placed where the next step fetches it. -/
def State.withFetchWord (s : State) (nbits w : Nat) : State :=
  placeOctets s (tableFetch nbits w).1 (tableFetch nbits w).2

end Sys2Proof.Machine
end

