-- ==== Sys2Proof/Safety.lean ====
section
/-!
DEFINITION. What counts as a safe state: the invariants the spec gives the registers between operations; and the
representation rules of 45_dispatch read word for word over the input buffer, against which the machine's split into
decoding and executing is judged.
-/

namespace Sys2Proof.Machine

/-- The decoder's table obeys 44_tables R219 while the context is healthy; after an error it holds any value
(60_exceptions R330). -/
abbrev State.tableOk (s : State) : Prop := s.err = .ok → s.table.wf

/-- Every scalar register, cursor and length fits 64 bits (92_eei_decisions D2). -/
abbrev State.widthsOk (s : State) : Prop :=
  s.table.maxSize < Config.wordLimit ∧ s.protoMax < Config.wordLimit ∧ s.intValueMax < Config.wordLimit ∧
    s.intEncLenMax < Config.wordLimit ∧ s.strLenMax < Config.wordLimit ∧ s.pos < Config.wordLimit ∧
    s.len < Config.wordLimit ∧ s.eTable.maxSize < Config.wordLimit

/-- A run is in progress only in a healthy context, its cursor is at most `LEN` (10_state R27), and its phase is not
`Done` (45_dispatch R245). -/
abbrev State.runOk (s : State) : Prop :=
  s.activity = .run → s.decLive = true ∧ s.err = .ok ∧ s.pos ≤ s.len ∧ s.phase ≠ .done

/-- The bit position of a `HUFF.DEC` in progress lies inside its payload (42_huffman R175). -/
abbrev State.huffOk (s : State) : Prop := s.huffRegs.bitpos ≤ 8 * s.huffRegs.payload.length

/-- The state invariant: the tables, the canonical form of the input buffer, the widths, the run, the bit position,
and the error code that no rule raises (60_exceptions R331). -/
structure State.Inv (s : State) : Prop where
  table : s.tableOk
  eTable : s.eTable.wf
  block : s.block.wf
  widths : s.widthsOk
  run : s.runOk
  huff : s.huffOk
  noUnknown : s.err ≠ .unknownRepresentation

/-! ### The representation rules, read over the input buffer -/

/-- `LIT(N, insert, sens)`, 45_dispatch R239 steps 1 to 6: an error, or the state after the representation. -/
def literalRule (width : Nat) (insert sensitive : Bool) (s : State) : Except ErrCode State := do
  let (p, _, index) ← intDec s.limits (s.octetsFrom s.pos) width
  let (p, name) ←
    if index = 0 then do
      let (count, text) ← strDec s.limits (s.octetsFrom (s.pos + p))
      pure (p + count, text)
    else do
      let entry ← s.table.get index
      pure (p, entry.name)
  let (count, value) ← strDec s.limits (s.octetsFrom (s.pos + p))
  pure
    { s with
      out := s.out ++ [⟨name, value, sensitive⟩]
      table := if insert then s.table.add ⟨name, value⟩ else s.table
      phase := .awaitingField
      pos := s.pos + (p + count) }

/-- `INDEXED`, 45_dispatch R238 steps 1 to 5. -/
def indexedRule (s : State) : Except ErrCode State := do
  let (p, _, index) ← intDec s.limits (s.octetsFrom s.pos) 7
  if index = 0 then throw .invalidIndex
  let entry ← s.table.get index
  pure
    { s with
      out := s.out ++ [⟨entry.name, entry.value, false⟩]
      phase := .awaitingField
      pos := s.pos + p }

/-- `SIZEUPD`, 45_dispatch R244 steps 1 to 5. -/
def sizeUpdateRule (s : State) : Except ErrCode State := do
  if s.phase ≠ .awaitingSizeUpdates then throw .sizeUpdateOutOfOrder
  let (p, _, new) ← intDec s.limits (s.octetsFrom s.pos) 5
  if s.protoMax < new then throw .sizeUpdateTooLarge
  pure { s with table := s.table.resize new, pos := s.pos + p }

/-- The step of a run, 45_dispatch R237, with `b = B[POS]`. -/
def stepRule (s : State) : Except ErrCode State :=
  let b := s.block.read s.pos
  if b.getLsbD 7 then indexedRule s
  else if b.getLsbD 6 then literalRule 6 true false s
  else if b.getLsbD 5 then sizeUpdateRule s
  else if b.getLsbD 4 then literalRule 4 false true s
  else literalRule 4 false false s

/-- What a run does with the result of a representation: an error is raised (60_exceptions R330). -/
def afterRule (s : State) : Except ErrCode State → State
  | .error e => s.raise e
  | .ok t => t

/-! ### The value of an integer, read off its octets -/

/-- The number that the prefix and the first `count` octets after it stand for (40_integer R134): the prefix plus the
base-128 digits, least significant first. -/
def intPartial (bs : Octets) (width count : Nat) : Nat :=
  (bs.getD 0 0).toNat % 2 ^ width +
    ((List.range count).map fun j => (bs.getD (j + 1) 0).toNat % 128 * 2 ^ (7 * j)).sum

/-! ### What the encoder asks of the decoder -/

/-- The decoder's table is what the encoder's was before the size update that is still pending, if one is: applying
the update to it, which the decoder's cap and limits admit, gives the encoder's table (47_encoder R305, R291). -/
abbrev State.inSync (s : State) : Prop :=
  if s.pending then
    s.table.resize s.eTable.maxSize = s.eTable ∧ s.eTable.maxSize ≤ s.protoMax ∧
      s.limits.admits (.sizeupd s.eTable.maxSize) = true
  else s.table = s.eTable

/-- The limits admit every representation that `ENC.ENCODE` emits for a header list (47_encoder R305: "let the
decoder's limits admit every integer and string the encoder emits"). -/
def fieldsAdmitted (lim : Limits) : List Header → State → Bool
  | [], _ => true
  | h :: hs, s =>
    lim.admits (fieldInstr s.eTable h true .incremental) &&
      fieldsAdmitted lim hs (encField h true .incremental s).2

/-- The reply of a stand-alone primitive: its result, or its error (46_commands R278). -/
def primitiveReply {α : Type} (result : α → Reply) : Except ErrCode α → Reply
  | .ok a => result a
  | .error e => .error e

end Sys2Proof.Machine
end

