-- ==== Sys2Proof/Certificates/Slice0/Obligations.lean ====
section
/-!
DEFINITION. The statements. Each says what the rule named beside it says of the machine; a title or a docstring names
the log entry of a clause that rests on a choice of the model.
-/

open Sys2Proof Sys2Proof.Machine

/-- Reset leaves both contexts constructed, with the register values of R39 (R39, R360). A clause is the model's
choice: notes/assumptions/1.md, 2.md. -/
def Obligations.ResetConstructsBothContexts : Prop :=
  ∃ max emax, State.reset.decLive = true ∧ State.reset.table = ⟨[], 0, max⟩ ∧ State.reset.protoMax = max ∧
    State.reset.intValueMax = 4294967295 ∧ State.reset.intEncLenMax = 6 ∧ State.reset.strLenMax = 65536 ∧
    State.reset.phase = .awaitingSizeUpdates ∧ State.reset.pos = 0 ∧ State.reset.err = .ok ∧ State.reset.out = [] ∧
    State.reset.encLive = true ∧ State.reset.eTable = ⟨[], 0, emax⟩ ∧ State.reset.pending = false

/-- The reset state meets the state invariant (R39, R219). A clause is the model's choice: notes/assumptions/1.md. -/
def Obligations.ResetMeetsInvariant : Prop :=
  State.reset.Inv

/-- A step of a run moves POS past the representation the decoder reads there and executes it (R236, R237). A clause
is the model's choice: notes/assumptions/4.md. -/
def Obligations.StepRunsTheDecodedRepresentation : Prop :=
  ∀ (s : State) (i : Instr) (n : Nat), s.activity = .run → s.pos < s.len →
    decodeRep s.limits (s.octetsFrom s.pos) = .ok (i, n) → step s = exec i { s with pos := s.pos + n }

/-- A step of the STR unit or of the HUFF unit executes the row the decoder reads (R150, R176). A clause is the
model's choice: notes/assumptions/13.md, 14.md. -/
def Obligations.StepRunsTheDecodedStringOrCode : Prop :=
  (∀ (s : State) (p : Nat) (i : Instr) (n : Nat), s.activity = .string p →
      decodeStr s.limits (s.octetsFrom p) = .ok (i, n) → step s = exec i { s with activity := .string (p + n) }) ∧
    ∀ (s : State) (r : HuffRegs) (i : Instr), s.activity = .huffman r → 5 ≤ 8 * r.payload.length - r.bitpos →
      decodeCode r.payload r.bitpos = .ok i → step s = exec i s

/-- Octets that are no representation raise the error that comes first in the order of R332: SizeUpdateOutOfOrder
before the errors of the size integer, an error of a literal's name before one of its value (R320, R330, R332). A
clause is the model's choice: notes/assumptions/15.md. -/
def Obligations.UndecodableRepresentationRaises : Prop :=
  ∀ (s : State) (r : Reject), s.activity = .run → s.pos < s.len →
    decodeRep s.limits (s.octetsFrom s.pos) = .error r →
    match r with
    | .index e => step s = .next (s.raise e)
    | .name e => step s = .next (s.raise e)
    | .newSize e =>
      step s = .next (s.raise (if s.phase = .awaitingSizeUpdates then e else .sizeUpdateOutOfOrder))
    | .value name e =>
      (∀ e', resolveName s.table name = .error e' → step s = .next (s.raise e')) ∧
        ∀ n, resolveName s.table name = .ok n → step s = .next (s.raise e)
    | .noOctet => False
    | .string _ => False
    | .noCode => False

/-- Words written out from the encoding decode to the instructions they stand for (R99, R151, R201). -/
def Obligations.SampleWordsDecode : Prop :=
  decodeRep resetLimits (octets [0x82]) = .ok (.indexed 2, 1) ∧
    decodeRep resetLimits (octets [0x41, 0x01, 0x61]) = .ok (.litinc (.byIndex 1) ⟨false, octets [0x61]⟩, 3) ∧
    decodeRep resetLimits (octets [0x3F, 0x20]) = .ok (.sizeupd 63, 2) ∧
    decodeRep resetLimits (octets [0x10, 0x01, 0x61, 0x01, 0x62]) =
      .ok (.litnever (.literal ⟨false, octets [0x61]⟩) ⟨false, octets [0x62]⟩, 5) ∧
    decodeRep resetLimits (octets [0x1F, 0x11, 0x01, 0x78]) = .ok (.litnever (.byIndex 32) ⟨false, octets [0x78]⟩, 4) ∧
    decodeRep resetLimits (octets [0x00, 0x00, 0x00]) = .ok (.litnoidx (.literal ⟨false, []⟩) ⟨false, []⟩, 3) ∧
    decodeStr resetLimits (octets [0x01, 0x61]) = .ok (.strRaw (octets [0x61]), 2) ∧
    decodeStr resetLimits (octets [0x82, 0x64, 0x02]) = .ok (.strHuff (octets [0x64, 0x02]), 3) ∧
    decodeCode (octets [0x64, 0x02]) 0 = .ok .huff51 ∧ decodeCode (octets [0x64, 0x02]) 6 = .ok .huff48 ∧
    decodeCode (octets [0x64, 0x02]) 11 = .ok .huff50 ∧
    decodeCode (octets [0xFF, 0xFF, 0xFF, 0xFF]) 0 = .ok .huffEOS

/-- The dispatch on the first octet is the match and mask table of R91 (R91, R99, R101). -/
def Obligations.FirstOctetSelectsItsRow : Prop :=
  ∀ b : Octet, (repKind b = .indexed ↔ b &&& 0x80 = 0x80) ∧ (repKind b = .literal .incremental ↔ b &&& 0xC0 = 0x40) ∧
    (repKind b = .sizeUpdate ↔ b &&& 0xE0 = 0x20) ∧ (repKind b = .literal .never ↔ b &&& 0xF0 = 0x10) ∧
    (repKind b = .literal .without ↔ b &&& 0xF0 = 0x00)

/-- INDEXED emits the entry it names and changes nothing but OUT and PHASE, POS being past it already (R238, R38). A
clause is the model's choice: notes/assumptions/4.md. -/
def Obligations.IndexedEmitsTheTableEntry : Prop :=
  ∀ (s : State) (index : Nat) (entry : Entry), s.table.get index = .ok entry →
    exec (.indexed index) s =
      .next { s with out := s.out ++ [⟨entry.name, entry.value, false⟩], phase := .awaitingField }

/-- INDEXED with index 0 or an index past the joint table raises InvalidIndex (R238, R327). -/
def Obligations.IndexedWithoutAnEntryRaisesInvalidIndex : Prop :=
  ∀ (s : State) (index : Nat), index = 0 ∨ 61 + s.table.entries.length < index →
    exec (.indexed index) s = .next (s.raise .invalidIndex)

/-- LITINC emits its header and inserts it with DT.ADD (R239, R240). That POS is past it already is the model's
choice: notes/assumptions/4.md. -/
def Obligations.LitincEmitsAndInserts : Prop :=
  ∀ (s : State) (name : NameRef) (value : StrLit) (n v : Octets), resolveName s.table name = .ok n →
    literalText value = .ok v →
    exec (.litinc name value) s =
      .next { s with
        out := s.out ++ [⟨n, v, false⟩], table := s.table.add ⟨n, v⟩, phase := .awaitingField }

/-- LITNOIDX emits its header and does not touch the table (R239, R241). That POS is past it already is the model's
choice: notes/assumptions/4.md. -/
def Obligations.LitnoidxEmitsWithoutInsert : Prop :=
  ∀ (s : State) (name : NameRef) (value : StrLit) (n v : Octets), resolveName s.table name = .ok n →
    literalText value = .ok v →
    exec (.litnoidx name value) s =
      .next { s with out := s.out ++ [⟨n, v, false⟩], phase := .awaitingField }

/-- LITNEVER emits its header with sensitive = true and does not touch the table (R239, R242). That POS is past it
already is the model's choice: notes/assumptions/4.md. -/
def Obligations.LitneverEmitsSensitive : Prop :=
  ∀ (s : State) (name : NameRef) (value : StrLit) (n v : Octets), resolveName s.table name = .ok n →
    literalText value = .ok v →
    exec (.litnever name value) s =
      .next { s with out := s.out ++ [⟨n, v, true⟩], phase := .awaitingField }

/-- A literal raises the error of its name, else the error of its value (R239, R332). -/
def Obligations.LiteralRaisesNameErrorThenValueError : Prop :=
  ∀ (s : State) (kind : LiteralKind) (name : NameRef) (value : StrLit) (e : ErrCode),
    (resolveName s.table name = .error e → exec (literalInstr kind name value) s = .next (s.raise e)) ∧
    ∀ n, resolveName s.table name = .ok n → literalText value = .error e →
      exec (literalInstr kind name value) s = .next (s.raise e)

/-- SIZEUPD in order and within PROTO_MAX performs DT.RESIZE and leaves PHASE and OUT (R244, R217). That POS is past it
already is the model's choice: notes/assumptions/4.md. -/
def Obligations.SizeupdSetsTheCap : Prop :=
  ∀ (s : State) (new : Nat), s.phase = .awaitingSizeUpdates → new ≤ s.protoMax →
    exec (.sizeupd new) s = .next { s with table := s.table.resize new }

/-- SIZEUPD after a field raises SizeUpdateOutOfOrder; above PROTO_MAX, SizeUpdateTooLarge (R244, R328, R329). -/
def Obligations.SizeupdOutOfOrderOrTooLargeRaises : Prop :=
  ∀ (s : State) (new : Nat),
    (s.phase ≠ .awaitingSizeUpdates → exec (.sizeupd new) s = .next (s.raise .sizeUpdateOutOfOrder)) ∧
    (s.phase = .awaitingSizeUpdates → s.protoMax < new →
      exec (.sizeupd new) s = .next (s.raise .sizeUpdateTooLarge))

/-- STR.RAW returns the payload verbatim and the offset past the literal, and writes no register (R150, R151). A
clause is the model's choice: notes/assumptions/13.md. -/
def Obligations.StrRawReturnsItsPayload : Prop :=
  ∀ (s : State) (p : Nat) (payload : Octets), s.activity = .string p →
    exec (.strRaw payload) s = .next { s with activity := .idle, reply := some (.string p payload) }

/-- STR.HUFF returns HUFF.DEC of its payload, or its error (R150, R151, R152). A clause is the model's choice:
notes/assumptions/13.md. -/
def Obligations.StrHuffReturnsItsDecodedPayload : Prop :=
  ∀ (s : State) (p : Nat) (payload : Octets), s.activity = .string p →
    (∀ text, huffDec payload = .ok text →
      exec (.strHuff payload) s = .next { s with activity := .idle, reply := some (.string p text) }) ∧
    ∀ e, huffDec payload = .error e →
      exec (.strHuff payload) s = .next { s with activity := .idle, reply := some (.error e) }

/-- HUFF.0 to HUFF.255: a code wholly inside the payload emits its symbol and consumes its bits (R176, R177, R201). A
clause is the model's choice: notes/assumptions/14.md. -/
def Obligations.HuffCodeEmitsItsSymbol : Prop :=
  ∀ (s : State) (r : HuffRegs) (i : Instr) (sym : Nat), s.activity = .huffman r → i.form = .code sym → sym ≠ 256 →
    (huffCodeOf sym).len ≤ 8 * r.payload.length - r.bitpos →
    exec i s =
      .next { s with
        activity := .huffman ⟨r.payload, r.bitpos + (huffCodeOf sym).len, r.text ++ [BitVec.ofNat 8 sym]⟩ }

/-- HUFF.0 to HUFF.255: a code that is not wholly inside the payload is padding below 8 bits, else a failure (R176,
R178, R181). A clause is the model's choice: notes/assumptions/14.md. -/
def Obligations.HuffCodePastTheEndIsPaddingOrFailure : Prop :=
  ∀ (s : State) (r : HuffRegs) (i : Instr) (sym : Nat), s.activity = .huffman r → i.form = .code sym → sym ≠ 256 →
    8 * r.payload.length - r.bitpos < (huffCodeOf sym).len →
    (8 * r.payload.length - r.bitpos < 8 →
      exec i s = .next { s with activity := .idle, reply := some (.octets r.text) }) ∧
    (8 ≤ 8 * r.payload.length - r.bitpos →
      exec i s = .next { s with activity := .idle, reply := some (.error .huffmanDecodeFailure) })

/-- HUFF.EOS: the empty slots of EOS raise HuffmanDecodeFailure (R174, R176, R181). That EOS is what an empty slot
decodes to is the model's reading: notes/assumptions/14.md. -/
def Obligations.HuffEosRaisesHuffmanDecodeFailure : Prop :=
  ∀ s : State,
    exec .huffEOS s = .next { s with activity := .idle, reply := some (.error .huffmanDecodeFailure) }

/-- GET: index 0 and indices above 61 + |DT| are InvalidIndex, 1 to 61 are STATIC, the rest DT (R210). -/
def Obligations.GetReadsTheJointTable : Prop :=
  ∀ (t : Table) (i : Nat),
    (i = 0 ∨ 61 + t.entries.length < i → t.get i = .error .invalidIndex) ∧
    (1 ≤ i → i ≤ 61 → ∃ hi : i - 1 < staticTable.length, t.get i = .ok (staticTable[i - 1]'hi)) ∧
    ∀ h : 62 ≤ i ∧ i - 62 < t.entries.length, t.get i = .ok (t.entries[i - 62]'h.2)

/-- Raising E sets ERR, ends the run, reports E, and touches only the registers R330 leaves open (R28, R330). A
clause is the model's choice: notes/assumptions/6.md. -/
def Obligations.RaiseChangesOnlyWhatTheSpecLeavesOpen : Prop :=
  ∀ (s : State) (e : ErrCode), ∃ (t : Table) (phase : Phase) (pos : Nat) (out : List Header) (count : Nat),
    s.raise e =
      { s with
        err := e, activity := .idle, reply := some (.error e), table := t, phase := phase, pos := pos, out := out,
        freeCount := count }

/-- DEC.INIT(max) gives every decoder register its reset value, in every state (R266, R39). A clause is the model's
choice: notes/assumptions/11.md. -/
def Obligations.DecInitSetsEveryDecoderRegister : Prop :=
  ∀ (s : State) (max : Nat) (rest : List Command), s.activity = .idle → s.commands = .decInit max :: rest →
    max ≤ Config.dtCapMax →
    step s =
      .next { s with
        commands := rest, reply := some .ok, decLive := true, table := ⟨[], 0, max⟩, protoMax := max,
        intValueMax := 4294967295, intEncLenMax := 6, strLenMax := 65536, phase := .awaitingSizeUpdates, pos := 0,
        err := .ok, out := [] }

/-- DEC.DECODE on a healthy context sets PHASE, POS and OUT afresh and starts the run (R236, R267, R269). -/
def Obligations.DecodeCommandStartsTheRun : Prop :=
  ∀ (s : State) (block : Octets) (rest : List Command), s.activity = .idle →
    s.commands = .decDecode block :: rest → s.decLive = true → s.err = .ok → block.length < 2 ^ 64 →
    ∃ m : Memory, (∀ p, ∀ h : p < block.length, m.read p = block[p]) ∧
      step s =
        .next { s with
          commands := rest, activity := .run, phase := .awaitingSizeUpdates, pos := 0, out := [], block := m,
          len := block.length }

/-- A run whose cursor is at LEN ends: PHASE is Done and OUT goes to the host (R236, R245). -/
def Obligations.ExhaustedRunReturnsItsHeaders : Prop :=
  ∀ s : State, s.activity = .run → s.pos = s.len →
    step s = .next { s with phase := .done, activity := .idle, reply := some (.headers s.out) }

/-- Each decoder setter changes its own register and nothing else (R268, R270, R271, R272, R273). A clause is the
model's choice: notes/assumptions/11.md. -/
def Obligations.DecoderSettersSetTheirRegister : Prop :=
  ∀ (s : State) (n : Nat) (rest : List Command), s.activity = .idle → s.decLive = true → s.err = .ok → n < 2 ^ 64 →
    (s.commands = .decSetMaxSize n :: rest →
      step s = .next { s with commands := rest, reply := some .ok, table := s.table.resize n }) ∧
    (s.commands = .decSetIntValueMax n :: rest →
      step s = .next { s with commands := rest, reply := some .ok, intValueMax := n }) ∧
    (s.commands = .decSetIntEncLenMax n :: rest →
      step s = .next { s with commands := rest, reply := some .ok, intEncLenMax := n }) ∧
    (s.commands = .decSetStrLenMax n :: rest →
      step s = .next { s with commands := rest, reply := some .ok, strLenMax := n })

/-- While ERR is not 0 every context command but DEC.INIT is refused without effect (R269, R279). -/
def Obligations.ContextCommandsAreRefusedAfterAnError : Prop :=
  ∀ (s : State) (c : Command) (rest : List Command), s.activity = .idle → s.err ≠ .ok → s.commands = c :: rest →
    ((∃ b, c = .decDecode b) ∨ (∃ n, c = .decSetMaxSize n) ∨ (∃ n, c = .decSetIntValueMax n) ∨
      (∃ n, c = .decSetIntEncLenMax n) ∨ ∃ n, c = .decSetStrLenMax n) →
    step s = .next { s with commands := rest, reply := some .refused }

/-- Before its INIT a context refuses every command that needs it (R269, R361, R297). -/
def Obligations.CommandsBeforeInitAreRefused : Prop :=
  ∀ (s : State) (c : Command) (rest : List Command), s.activity = .idle → s.commands = c :: rest →
    (s.decLive = false ∧
        ((∃ b, c = .decDecode b) ∨ (∃ n, c = .decSetMaxSize n) ∨ (∃ n, c = .decSetIntValueMax n) ∨
          (∃ n, c = .decSetIntEncLenMax n) ∨ (∃ n, c = .decSetStrLenMax n) ∨ ∃ b w, c = .intDec b w) ∨
      s.encLive = false ∧
        ((∃ n, c = .encSetMaxSize n) ∨ (∃ h f, c = .encIndexed h f) ∨ (∃ h f, c = .encNoIndex h f) ∨
          ∃ hs, c = .encEncode hs)) →
    step s = .next { s with commands := rest, reply := some .refused }

/-- INT.DEC, INT.ENC and HUFF.ENC answer their operation's result, whatever ERR is, and change nothing (R274, R275,
R277, R278). That INT.ENC and HUFF.ENC need no decoder context is the model's reading: notes/assumptions/17.md. -/
def Obligations.PrimitiveCommandsAnswerAndChangeNothing : Prop :=
  ∀ (s : State) (rest : List Command), s.activity = .idle →
    (∀ buffer width, s.commands = .intDec buffer width :: rest → s.decLive = true → buffer.length < 2 ^ 64 →
      1 ≤ width → width ≤ 8 →
      step s =
        .next { s with
          commands := rest,
          reply := some (primitiveReply (fun r => .integer r.1 r.2.1 r.2.2) (intDec s.limits buffer width)) }) ∧
    (∀ v width flags, s.commands = .intEnc v width flags :: rest → v < 2 ^ 64 → 1 ≤ width → width ≤ 8 →
      flags &&& BitVec.ofNat 8 (2 ^ width - 1) = 0 →
      step s = .next { s with commands := rest, reply := some (.octets (intEnc v width flags)) }) ∧
    ∀ text, s.commands = .huffEnc text :: rest →
      step s = .next { s with commands := rest, reply := some (.octets (huffEnc text)) }

/-- ENC.INIT resets the encoder; ENC.SET_MAX_SIZE resizes its table and always sets PENDING (R290, R291). A clause
is the model's choice: notes/assumptions/11.md. -/
def Obligations.EncoderContextCommandsSetTheirRegisters : Prop :=
  ∀ (s : State) (n : Nat) (rest : List Command), s.activity = .idle → n < 2 ^ 64 →
    (s.commands = .encInit n :: rest →
      step s =
        .next { s with
          commands := rest, reply := some .ok, encLive := true, eTable := ⟨[], 0, n⟩, pending := false }) ∧
    (s.commands = .encSetMaxSize n :: rest → s.encLive = true →
      step s =
        .next { s with commands := rest, reply := some .ok, eTable := s.eTable.resize n, pending := true })

/-- ENC.INDEXED and ENC.NOINDEX answer what R295 emits in each case of the flag, of the lookup and of the policy, and
insert only under the incremental policy and not on a full hit; only E_DT, E_CUR_SIZE and PENDING change. ENC.ENCODE
answers the concatenation of ENC.INDEXED with Huffman on (R295, R296). -/
def Obligations.EncodeCommandsAnswerTheFieldOctets : Prop :=
  (∀ (s : State) (h : Header) (huffman : Bool) (rest : List Command) (policy : EncodePolicy), s.activity = .idle →
    s.encLive = true →
    s.commands =
      (match policy with
        | .incremental => .encIndexed h huffman
        | .notIndexed => .encNoIndex h huffman) :: rest →
    let update : Octets := if s.pending then intEnc s.eTable.maxSize 5 0x20 else []
    let name : Octets := strEnc h.name huffman
    let value : Octets := strEnc h.value huffman
    let inserted : Table := s.eTable.add ⟨h.name, h.value⟩
    let after (field : Octets) (t : Table) : State :=
      { s with commands := rest, pending := false, eTable := t, reply := some (.octets (update ++ field)) }
    (∀ i, h.sensitive = true → staticName h.name = some i →
      step s = .next (after (intEnc i 4 0x10 ++ value) s.eTable)) ∧
    (h.sensitive = true → staticName h.name = none →
      step s = .next (after (intEnc 0 4 0x10 ++ name ++ value) s.eTable)) ∧
    (∀ i, h.sensitive = false → lookup s.eTable h.name h.value = .full i →
      step s = .next (after (intEnc i 7 0x80) s.eTable)) ∧
    (∀ i, h.sensitive = false → lookup s.eTable h.name h.value = .nameOnly i → policy = .incremental →
      step s = .next (after (intEnc i 6 0x40 ++ value) inserted)) ∧
    (∀ i, h.sensitive = false → lookup s.eTable h.name h.value = .nameOnly i → policy = .notIndexed →
      step s = .next (after (intEnc i 4 0x00 ++ value) s.eTable)) ∧
    (h.sensitive = false → lookup s.eTable h.name h.value = .none → policy = .incremental →
      step s = .next (after (intEnc 0 6 0x40 ++ name ++ value) inserted)) ∧
    (h.sensitive = false → lookup s.eTable h.name h.value = .none → policy = .notIndexed →
      step s = .next (after (intEnc 0 4 0x00 ++ name ++ value) s.eTable))) ∧
  (∀ (s : State) (rest : List Command), s.activity = .idle → s.encLive = true → s.commands = .encEncode [] :: rest →
    step s = .next { s with commands := rest, reply := some (.octets []) }) ∧
  ∀ (s t u : State) (h : Header) (hs : List Header) (rest : List Command) (first more : Octets),
    s.activity = .idle → s.encLive = true → s.commands = .encEncode (h :: hs) :: rest →
    step { s with commands := .encIndexed h true :: rest } = .next t → t.reply = some (.octets first) →
    step { t with commands := .encEncode hs :: rest } = .next u → u.reply = some (.octets more) →
    step s = .next { u with reply := some (.octets (first ++ more)) }

/-- The encoder sends a sensitive header never-indexed and inserts nothing, under either policy (R295, R376). -/
def Obligations.SensitiveHeadersAreNeverIndexedByTheEncoder : Prop :=
  ∀ (s : State) (h : Header) (huffman : Bool) (policy : EncodePolicy), h.sensitive = true →
    (encField h huffman policy s).2.eTable = s.eTable ∧
    fieldInstr s.eTable h huffman policy =
      .litnever
        (match staticName h.name with
          | some i => .byIndex i
          | none => .literal (literalOf h.name huffman))
        (literalOf h.value huffman)

/-- Outside a run, no step but the one that takes DEC.INIT changes ERR (R28, R269, R278). -/
def Obligations.OnlyDecInitClearsTheError : Prop :=
  ∀ s t : State, s.activity ≠ .run → step s = .next t → t.err ≠ s.err →
    s.activity = .idle ∧ t.err = .ok ∧ ∃ max rest, s.commands = .decInit max :: rest

/-- POS strictly increases with every representation and never exceeds LEN; the block is not written (R27, R246). -/
def Obligations.CursorAdvancesInsideTheBlock : Prop :=
  ∀ s t : State, s.activity = .run → s.pos < s.len → step s = .next t → t.activity = .run →
    s.pos < t.pos ∧ t.pos ≤ t.len ∧ t.len = s.len ∧ t.block = s.block

/-- DT.ADD evicts the oldest entries and no more than the new one needs, or empties the table (R214, R215). -/
def Obligations.TableAddEvictsJustEnough : Prop :=
  ∀ (t : Table) (e : Entry), t.wf →
    (t.maxSize < entrySize e → t.add e = ⟨[], 0, t.maxSize⟩) ∧
    (entrySize e ≤ t.maxSize →
      ∃ k ≤ t.entries.length,
        t.add e = ⟨e :: t.entries.take k, entrySize e + sizeSum (t.entries.take k), t.maxSize⟩ ∧
        entrySize e + sizeSum (t.entries.take k) ≤ t.maxSize ∧
        (k = t.entries.length ∨ t.maxSize < entrySize e + sizeSum (t.entries.take (k + 1))))

/-- DT.RESIZE sets the cap and keeps the newest entries that fit it, as many as fit (R217, R218). -/
def Obligations.TableResizeEvictsJustEnough : Prop :=
  ∀ (t : Table) (new : Nat), t.wf →
    ∃ k ≤ t.entries.length,
      t.resize new = ⟨t.entries.take k, sizeSum (t.entries.take k), new⟩ ∧ sizeSum (t.entries.take k) ≤ new ∧
      (k = t.entries.length ∨ new < sizeSum (t.entries.take (k + 1)))

/-- DT.ADD and DT.RESIZE keep CUR_SIZE the sum of sizes, at most MAX_SIZE; |DT| is at most MAX_SIZE div 32 (R219). -/
def Obligations.TableOperationsKeepTheSizeInvariant : Prop :=
  ∀ (t : Table) (e : Entry) (new : Nat), t.wf →
    (t.add e).wf ∧ (t.resize new).wf ∧ t.entries.length ≤ t.maxSize / 32 ∧
      (t.add e).entries.length ≤ (t.add e).maxSize / 32 ∧
      (t.resize new).entries.length ≤ (t.resize new).maxSize / 32

/-- INT.DEC, octet by octet: the value is the prefix plus the base-128 digits up to the first octet with bit 7 clear;
at each further octet the length limit is tested first, then truncation, then the value; an integer that is answered
has at most max 1 INT_ENC_LEN_MAX octets (R131, R132, R134). -/
def Obligations.IntDecAccumulatesBase128Digits : Prop :=
  ∀ (lim : Limits) (bs : Octets) (width : Nat), 1 ≤ width → width ≤ 8 →
    let flags : Octet := BitVec.ofNat 8 ((bs.getD 0 0).toNat - (bs.getD 0 0).toNat % 2 ^ width)
    (bs = [] → intDec lim bs width = .error .truncated) ∧
    (bs ≠ [] → intPartial bs width 0 < 2 ^ width - 1 →
      (lim.intValueMax < intPartial bs width 0 → intDec lim bs width = .error .integerValueTooLarge) ∧
      (intPartial bs width 0 ≤ lim.intValueMax → intDec lim bs width = .ok (1, flags, intPartial bs width 0))) ∧
    (∀ i, bs ≠ [] → intPartial bs width 0 = 2 ^ width - 1 → 1 ≤ i →
      (∀ j, 1 ≤ j → j < i → j < lim.intEncLenMax ∧ j < bs.length ∧ intPartial bs width j ≤ lim.intValueMax ∧
        (bs.getD j 0).getLsbD 7 = true) →
      (lim.intEncLenMax ≤ i → intDec lim bs width = .error .integerEncodedLengthTooLong) ∧
      (i < lim.intEncLenMax → bs.length ≤ i → intDec lim bs width = .error .truncated) ∧
      (i < lim.intEncLenMax → i < bs.length → lim.intValueMax < intPartial bs width i →
        intDec lim bs width = .error .integerValueTooLarge) ∧
      (i < lim.intEncLenMax → i < bs.length → intPartial bs width i ≤ lim.intValueMax →
        (bs.getD i 0).getLsbD 7 = false → intDec lim bs width = .ok (i + 1, flags, intPartial bs width i))) ∧
    ∀ (k v : Nat) (pfx : Octet), intDec lim bs width = .ok (k, pfx, v) →
      1 ≤ k ∧ k ≤ bs.length ∧ k ≤ max 1 lim.intEncLenMax ∧ pfx = flags ∧ v = intPartial bs width (k - 1) ∧
        v ≤ lim.intValueMax ∧ (∀ j, 1 ≤ j → j + 1 < k → (bs.getD j 0).getLsbD 7 = true) ∧
        (1 < k → (bs.getD (k - 1) 0).getLsbD 7 = false)

/-- INT.DEC of INT.ENC gives the value and the flag bits back, within the limits (R138). -/
def Obligations.IntegerRoundTrip : Prop :=
  (∀ (lim : Limits) (v width : Nat) (flags : Octet) (rest : Octets), 1 ≤ width → width ≤ 8 →
      flags &&& BitVec.ofNat 8 (2 ^ width - 1) = 0 → v ≤ lim.intValueMax →
      (intEnc v width flags).length ≤ max 1 lim.intEncLenMax →
      intDec lim (intEnc v width flags ++ rest) width = .ok ((intEnc v width flags).length, flags, v)) ∧
    ∀ (v width : Nat) (flags : Octet), 1 ≤ width → width ≤ 8 → v ≤ 2 ^ 32 - 1 →
      (intEnc v width flags).length ≤ 6

/-- STR.DEC step by step: the errors of the length integer, then StringLiteralLengthTooLong above STR_LEN_MAX, then
Truncated, then HUFF.DEC when H = 1, else the payload itself (R151); and STR.DEC of STR.ENC gives the string back, raw
or Huffman-coded, within the limits (R303). -/
def Obligations.StringRoundTrip : Prop :=
  (∀ (lim : Limits) (s : Octets) (huffman : Bool) (rest : Octets),
    (literalOf s huffman).payload.length ≤ lim.strLenMax →
    (literalOf s huffman).payload.length ≤ lim.intValueMax →
    (intEnc (literalOf s huffman).payload.length 7 0).length ≤ max 1 lim.intEncLenMax →
    strDec lim (strEnc s huffman ++ rest) = .ok ((strEnc s huffman).length, s)) ∧
  ∀ (lim : Limits) (bs : Octets),
    (∀ e, intDec lim bs 7 = .error e → strDec lim bs = .error e) ∧
    ∀ (q len : Nat) (pfx : Octet), intDec lim bs 7 = .ok (q, pfx, len) →
      (lim.strLenMax < len → strDec lim bs = .error .stringLiteralLengthTooLong) ∧
      (len ≤ lim.strLenMax → bs.length - q < len → strDec lim bs = .error .truncated) ∧
      (len ≤ lim.strLenMax → len ≤ bs.length - q → pfx.getLsbD 7 = false →
        strDec lim bs = .ok (q + len, (bs.drop q).take len)) ∧
      (len ≤ lim.strLenMax → len ≤ bs.length - q → pfx.getLsbD 7 = true →
        (∀ text, huffDec ((bs.drop q).take len) = .ok text → strDec lim bs = .ok (q + len, text)) ∧
        ∀ e, huffDec ((bs.drop q).take len) = .error e → strDec lim bs = .error e)

/-- HUFF.DEC of HUFF.ENC is the identity on all octet strings (R183). -/
def Obligations.HuffmanRoundTrip : Prop :=
  ∀ s : Octets, huffDec (huffEnc s) = .ok s

/-- The trie walk of any window ends in the leaf of the code the window begins with, unless it begins with EOS
(R170, R173, R203). -/
def Obligations.WalkReachesEveryCode : Prop :=
  ∀ W : BitVec 32, W.toNat < 2 ^ 32 - 4 →
    ∃ sym < 256, walk W = .leaf sym (huffCodeOf sym).len ∧
      W.toNat / 2 ^ (32 - (huffCodeOf sym).len) = (huffCodeOf sym).code

/-- The walk reaches an empty slot exactly when the window begins with the 30 one-bits of EOS (R173, R174). -/
def Obligations.EmptySlotsAreTheEosCode : Prop :=
  ∀ W : BitVec 32, (walk W = .empty ↔ 2 ^ 32 - 4 ≤ W.toNat) ∧ walk W ≠ .exhausted

/-- Every turn of HUFF.DEC that goes on consumes at least five bits of the payload and emits one octet, so HUFF.DEC
always ends and gives at most (8|S|) div 5 octets; the model's bound on the turns is never met (R180). The bound is
the model's: notes/assumptions/24.md. -/
def Obligations.HuffDecOutputIsBounded : Prop :=
  (∀ r r' : HuffRegs, huffTurn r = .more r' →
    r'.payload = r.payload ∧ r.bitpos + 5 ≤ r'.bitpos ∧ r'.bitpos ≤ 8 * r.payload.length ∧
      ∃ x, r'.text = r.text ++ [x]) ∧
  (∀ (S : Octets) (turns : Nat), 8 * S.length / 5 + 1 ≤ turns → huffLoop turns (huffStart S) = huffDec S) ∧
  ∀ S text : Octets, huffDec S = .ok text → text.length ≤ 8 * S.length / 5

/-- HUFF.ENC gives the number of octets its code bits need (R294). -/
def Obligations.HuffEncLength : Prop :=
  ∀ s : Octets,
    (huffEnc s).length = ((s.map fun x => (huffCodeOf x.toNat).len).sum + 7) / 8

/-- LOOKUP answers the smallest full match, else the smallest name match, else none (R292, R210). -/
def Obligations.LookupFindsTheSmallestIndex : Prop :=
  ∀ (t : Table) (name value : Octets),
    match lookup t name value with
    | .full i => t.get i = .ok ⟨name, value⟩ ∧ ∀ j, t.get j = .ok ⟨name, value⟩ → i ≤ j
    | .nameOnly i =>
      (∃ other, t.get i = .ok ⟨name, other⟩) ∧ (∀ j other, t.get j = .ok ⟨name, other⟩ → i ≤ j) ∧
        ∀ j, t.get j ≠ .ok ⟨name, value⟩
    | .none => ∀ j other, t.get j ≠ .ok ⟨name, other⟩

/-- Every step of every state has a next state: no fault, no refusal (R320, R330, R342). -/
def Obligations.StepAlwaysAnswersANextState : Prop :=
  ∀ s : State, ∃ t, step s = .next t

/-- No representation writes PROTO_MAX, the limits, the encoder context, the block or the command queue (R24, R25,
R337). -/
def Obligations.WireCannotWriteLimitsOrEncoder : Prop :=
  ∀ s t : State, s.activity = .run → step s = .next t →
    t.protoMax = s.protoMax ∧ t.limits = s.limits ∧ t.decLive = s.decLive ∧ t.encLive = s.encLive ∧
      t.eTable = s.eTable ∧ t.pending = s.pending ∧ t.block = s.block ∧ t.len = s.len ∧ t.commands = s.commands

/-- A step of a healthy run that raises no error leaves MAX_SIZE as it was or at most PROTO_MAX (R23, R337). -/
def Obligations.WireCannotRaiseTheCapAboveProtoMax : Prop :=
  ∀ s t : State, s.activity = .run → s.err = .ok → step s = .next t → t.err = .ok →
    t.table.maxSize = s.table.maxSize ∨ t.table.maxSize ≤ s.protoMax

/-- Only a first octet 01xxxxxx can put an entry into the dynamic table (R211, R240). -/
def Obligations.OnlyLitincInsertsIntoTheTable : Prop :=
  ∀ s t : State, s.activity = .run → s.err = .ok → s.pos < s.len → s.block.read s.pos &&& 0xC0 ≠ 0x40 →
    step s = .next t → t.err = .ok → ∃ k, t.table.entries = s.table.entries.take k

/-- A step emits at most one header, and it is sensitive exactly when the first octet is 0001xxxx (R32, R38, R242). -/
def Obligations.OnlyLitneverEmitsSensitiveHeaders : Prop :=
  ∀ s t : State, s.activity = .run → s.err = .ok → s.pos < s.len → step s = .next t → t.err = .ok →
    t.out = s.out ∨
      ∃ h, t.out = s.out ++ [h] ∧ (h.sensitive = true ↔ s.block.read s.pos &&& 0xF0 = 0x10)

/-- No step makes ERR UnknownRepresentation or reports it (R331). -/
def Obligations.UnknownRepresentationIsNeverRaised : Prop :=
  ∀ s t : State, s.err ≠ .unknownRepresentation → s.reply ≠ some (.error .unknownRepresentation) →
    step s = .next t → t.err ≠ .unknownRepresentation ∧ t.reply ≠ some (.error .unknownRepresentation)

/-- Every step keeps the state invariant (R22, R27, R219, R245, R331). -/
def Obligations.StepKeepsTheInvariant : Prop :=
  ∀ s t : State, s.Inv → step s = .next t → t.Inv

/-- Decoding and executing a representation is exactly the rule of its type, read over the buffer; an error is raised
as R330 says, the registers it leaves open being free values: notes/assumptions/6.md (R238, R239, R240, R241, R242,
R244, R330). -/
def Obligations.RepresentationStepFollowsItsRule : Prop :=
  ∀ s : State, s.activity = .run → s.pos < s.len → step s = .next (afterRule s (stepRule s))

/-- Every run ends after at most LEN - POS representations and one closing step (R236, R246). -/
def Obligations.EveryRunEnds : Prop :=
  ∀ s : State, s.activity = .run → s.pos ≤ s.len →
    ∃ k ≤ s.len - s.pos + 1, ∃ t : State, Host.Core.run Sys2Proof.core k s = .next t ∧ t.activity = .idle

/-- Decoding the encoding of a well-formed representation gives it back, whatever follows (R90, R93, R95, R97). -/
def Obligations.RepresentationDecodeEncode : Prop :=
  ∀ (lim : Limits) (i : Instr) (rest : Octets), i.unit = .representation → i.wf = true → lim.admits i = true →
    decodeRep lim (encode i ++ rest) = .ok (i, (encode i).length)

/-- Decoding the encoding of a string literal or of a Huffman code gives it back, whatever follows (R97, R98, R201). -/
def Obligations.StringAndCodeDecodeEncode : Prop :=
  (∀ (lim : Limits) (i : Instr) (rest : Octets), i.unit = .string → i.wf = true → lim.admits i = true →
      decodeStr lim (encode i ++ rest) = .ok (i, (encode i).length)) ∧
    ∀ (i : Instr) (rest : Octets), i.unit = .huffman → decodeCode (encode i ++ rest) 0 = .ok i

/-- HUFF.DEC(S), taken from the host by the idle block, starts the HUFF unit on S, which code by code delivers HUFF.DEC
of the payload, changes no context and leaves no trace (R37, R176, R180, R276, R278). That a code is a step is the
model's choice, and so is the bound on the operand: notes/assumptions/4.md, 10.md, 14.md. -/
def Obligations.HuffCommandComputesHuffDec : Prop :=
  ∀ (s : State) (S : Octets) (rest : List Command), s.activity = .idle → s.commands = .huffDec S :: rest →
    S.length < 2 ^ 64 →
    step s = .next { s with commands := rest, activity := .huffman ⟨S, 0, []⟩ } ∧
    ∃ k ≤ 8 * S.length / 5 + 2, Host.Core.run Sys2Proof.core k s =
      .next { s with commands := rest, reply := some (primitiveReply .octets (huffDec S)) }

/-- The decoder reads back what ENC.FIELD emits, and the two tables stay equal, across a pending size update too
(R295, R305). -/
def Obligations.FieldRoundTrip : Prop :=
  ∀ (s : State) (h : Header) (huffman : Bool) (policy : EncodePolicy), s.decLive = true → s.err = .ok → s.table.wf →
    s.inSync → s.limits.admits (fieldInstr s.eTable h huffman policy) = true →
    ∃ (k : Nat) (t : State),
      Host.Core.run Sys2Proof.core k
        ((encField h huffman policy s).2.startRun (encField h huffman policy s).1) = .next t ∧
      t.activity = .idle ∧ t.reply = some (.headers [h]) ∧ t.err = .ok ∧
      t.table = (encField h huffman policy s).2.eTable ∧ t.table = t.eTable

/-- Decoding the block that ENC.ENCODE answers gives the header list back and leaves the two tables in step, across a
pending size update too (R296, R305). -/
def Obligations.CodecRoundTrip : Prop :=
  ∀ (s t : State) (hs : List Header) (rest : List Command) (block : Octets), s.activity = .idle →
    s.commands = .encEncode hs :: rest → s.encLive = true → s.decLive = true → s.err = .ok → s.table.wf → s.inSync →
    fieldsAdmitted s.limits hs s = true → step s = .next t → t.reply = some (.octets block) →
    block.length < 2 ^ 64 →
    ∃ (k : Nat) (u : State),
      Host.Core.run Sys2Proof.core k { t with commands := .decDecode block :: rest } = .next u ∧
      u.activity = .idle ∧ u.reply = some (.headers hs) ∧ u.err = .ok ∧ u.eTable = t.eTable ∧ u.inSync ∧
      (hs ≠ [] → u.pending = false ∧ u.table = u.eTable)
end

