-- ==== Sys2Proof/Laws/Decode.lean ====
section
/-!
SUPPORT. What the decoders answer: bounds on the octets consumed and on the values, and the errors they can report.
-/

namespace Sys2Proof.Machine

theorem intDecMore_ok {lim : Limits} {bs : Octets} {n m i count v : Nat}
    (h : intDecMore lim bs n m i = .ok (count, v)) :
    i < count ∧ count ≤ i + bs.length ∧ v ≤ lim.intValueMax ∧ n ≤ v := by
  induction bs generalizing n m i with
  | nil => simp only [intDecMore] at h; split at h <;> cases h
  | cons c cs ih =>
    simp only [intDecMore] at h
    split at h
    · cases h
    · split at h
      · cases h
      · split at h
        · have := ih h
          simp only [List.length_cons]
          omega
        · cases h
          simp only [List.length_cons]
          omega

theorem intDecMore_error {lim : Limits} {bs : Octets} {n m i : Nat} {e : ErrCode}
    (h : intDecMore lim bs n m i = .error e) :
    e = .integerEncodedLengthTooLong ∨ e = .truncated ∨ e = .integerValueTooLarge := by
  induction bs generalizing n m i with
  | nil => simp only [intDecMore] at h; split at h <;> cases h <;> simp
  | cons c cs ih =>
    simp only [intDecMore] at h
    split at h
    · cases h; simp
    · split at h
      · cases h; simp
      · split at h
        · exact ih h
        · cases h

/-- All that `INT.DEC` can answer when it decodes: at least one octet and at most the octets there are, a value within
`INT_VALUE_MAX`, and the flag bits of the first octet (40_integer R135). -/
theorem intDec_ok {lim : Limits} {bs : Octets} {width count v : Nat} {pfx : Octet}
    (h : intDec lim bs width = .ok (count, pfx, v)) :
    1 ≤ count ∧ count ≤ bs.length ∧ v ≤ lim.intValueMax ∧ ∃ b rest, bs = b :: rest ∧ pfx = flagBits b width := by
  cases bs with
  | nil => cases h
  | cons b rest =>
    simp only [intDec] at h
    split at h
    · split at h
      · cases h
      · cases h
        exact ⟨le_rfl, by simp, by omega, b, rest, rfl, rfl⟩
    · split at h
      · cases h
      · rename_i hm
        cases h
        have := intDecMore_ok hm
        exact ⟨by omega, by simp only [List.length_cons]; omega, this.2.2.1, b, rest, rfl, rfl⟩

/-- The three errors of `INT.DEC` (40_integer R132). -/
theorem intDec_error {lim : Limits} {bs : Octets} {width : Nat} {e : ErrCode} (h : intDec lim bs width = .error e) :
    e = .integerEncodedLengthTooLong ∨ e = .truncated ∨ e = .integerValueTooLarge := by
  cases bs with
  | nil => cases h; simp
  | cons b rest =>
    simp only [intDec] at h
    split at h
    · split at h <;> cases h; simp
    · split at h
      · rename_i hm; cases h; exact intDecMore_error hm
      · cases h

/-- All that the frame of `STR.DEC` can answer when it decodes: the length integer, then the payload, wholly present
and within `STR_LEN_MAX` (41_string R151). -/
theorem decodeString_ok {lim : Limits} {bs : Octets} {lit : StrLit} {count : Nat}
    (h : decodeString lim bs = .ok (lit, count)) :
    ∃ q pfx len, intDec lim bs stringWidth = .ok (q, pfx, len) ∧ len ≤ lim.strLenMax ∧ q + len ≤ bs.length ∧
      lit = ⟨hFlag pfx, (bs.drop q).take len⟩ ∧ count = q + len := by
  unfold decodeString at h
  split at h
  · cases h
  · rename_i q pfx len hi
    have := intDec_ok hi
    split at h
    · cases h
    · split at h
      · cases h
      · cases h
        exact ⟨q, pfx, len, hi, by omega, by omega, rfl, rfl⟩

theorem decodeString_count {lim : Limits} {bs : Octets} {lit : StrLit} {count : Nat}
    (h : decodeString lim bs = .ok (lit, count)) : 1 ≤ count ∧ count ≤ bs.length := by
  obtain ⟨q, pfx, len, hi, _, hq, _, rfl⟩ := decodeString_ok h
  have := intDec_ok hi
  omega

/-- The errors of the frame of `STR.DEC` (41_string R152). -/
theorem decodeString_error {lim : Limits} {bs : Octets} {e : ErrCode} (h : decodeString lim bs = .error e) :
    e = .integerEncodedLengthTooLong ∨ e = .truncated ∨ e = .integerValueTooLarge ∨
      e = .stringLiteralLengthTooLong := by
  unfold decodeString at h
  split at h
  · rename_i hi; cases h
    rcases intDec_error hi with h | h | h <;> simp [h]
  · split at h
    · cases h; simp
    · split at h <;> cases h; simp

theorem decodeValue_ok {lim : Limits} {bs : Octets} {kind : LiteralKind} {name : NameRef} {used n : Nat} {i : Instr}
    (h : decodeValue lim bs kind name used = .ok (i, n)) :
    ∃ value count, decodeString lim (bs.drop used) = .ok (value, count) ∧ i = literalInstr kind name value ∧
      n = used + count := by
  unfold decodeValue at h
  split at h
  · cases h
  · rename_i value count hv
    cases h
    exact ⟨value, count, hv, rfl, rfl⟩

/-- A representation that decodes occupies at least one octet and lies inside the octets there are (10_state R27). -/
theorem decodeRep_count {lim : Limits} {bs : Octets} {i : Instr} {n : Nat} (h : decodeRep lim bs = .ok (i, n)) :
    1 ≤ n ∧ n ≤ bs.length := by
  cases bs with
  | nil => cases h
  | cons b rest =>
    have value {kind name used} (hused : 1 ≤ used)
        (hv : decodeValue lim (b :: rest) kind name used = .ok (i, n)) : 1 ≤ n ∧ n ≤ (b :: rest).length := by
      obtain ⟨v, count, hs, _, rfl⟩ := decodeValue_ok hv
      have := decodeString_count hs
      rw [List.length_drop] at this
      omega
    simp only [decodeRep] at h
    split at h
    · split at h
      · cases h
      · rename_i hi; cases h; have := intDec_ok hi; omega
    · unfold decodeLiteral at h
      split at h
      · cases h
      · rename_i hi
        have := intDec_ok hi
        split at h
        · split at h
          · cases h
          · exact value (by omega) h
        · exact value (by omega) h
    · split at h
      · cases h
      · rename_i hi; cases h; have := intDec_ok hi; omega

theorem decodeStr_count {lim : Limits} {bs : Octets} {i : Instr} {n : Nat} (h : decodeStr lim bs = .ok (i, n)) :
    1 ≤ n ∧ n ≤ bs.length := by
  unfold decodeStr at h
  split at h
  · cases h
  · rename_i hs; cases h; exact decodeString_count hs

end Sys2Proof.Machine
end

