-- ==== Sys2Proof/Laws/Huffman.lean ====
section
/-!
SUPPORT. The HUFF unit: the shape of the code table (10_state R34), what a walk can end in, what a turn of the decode
loop can do, and the bits of an octet string.
-/

namespace Sys2Proof.Machine

theorem huffCodeTable_check :
    huffCodeTable.all (fun c => 5 ≤ c.len && c.len ≤ 30 && c.code < 2 ^ c.len) = true := by decide +kernel

/-- Every code has 5 to 30 bits and fits its length (10_state R34). -/
theorem huffCodeTable_bounds : ∀ c ∈ huffCodeTable, 5 ≤ c.len ∧ c.len ≤ 30 ∧ c.code < 2 ^ c.len := by
  intro c hc
  have h := List.all_eq_true.1 huffCodeTable_check c hc
  simpa only [Bool.and_eq_true, decide_eq_true_eq, and_assoc] using h

theorem huffCodeTable_length : huffCodeTable.length = 257 := by decide +kernel

theorem huffCodeOf_mem {sym : Nat} (h : sym < 257) : huffCodeOf sym ∈ huffCodeTable := by
  rw [huffCodeOf, List.getD_eq_getElem _ _ (by rw [huffCodeTable_length]; exact h)]
  exact List.getElem_mem _

theorem huffCodeOf_bounds {sym : Nat} (h : sym < 257) :
    5 ≤ (huffCodeOf sym).len ∧ (huffCodeOf sym).len ≤ 30 ∧ (huffCodeOf sym).code < 2 ^ (huffCodeOf sym).len :=
  huffCodeTable_bounds _ (huffCodeOf_mem h)

theorem trieRows_length : trieRows.length = 256 := by simp [trieRows, huffCodeTable_length, eosSymbol]

/-- A leaf of the trie is a symbol below 256 with the length of its code, and the code ends inside the stride of the
node's depth (42_huffman R166, R173 (b)). -/
theorem slotAt_leaf {node : TrieNode} {idx sym len : Nat} (h : slotAt node idx = .leaf sym len) :
    sym < 256 ∧ len = (huffCodeOf sym).len ∧
      codeEndsIn (8 * node.depth) (node.leading * 256 + idx) (huffCodeOf sym) = true := by
  simp only [slotAt] at h
  split at h
  · rename_i k hk
    cases h
    rw [List.findIdx?_eq_some_iff_getElem] at hk
    obtain ⟨hlt, hp, _⟩ := hk
    rw [trieRows_length] at hlt
    refine ⟨hlt, rfl, ?_⟩
    have : (huffCodeOf sym) = trieRows[sym]'(by rw [trieRows_length]; exact hlt) := by
      rw [huffCodeOf, List.getD_eq_getElem _ _ (by rw [huffCodeTable_length]; omega)]
      simp [trieRows]
    rw [this]
    exact hp
  · split at h <;> cases h

theorem walkFrom_leaf {W : BitVec 32} {strides : List Nat} {node : TrieNode} {sym len : Nat}
    (h : walkFrom W strides node = .leaf sym len) : sym < 256 ∧ len = (huffCodeOf sym).len := by
  induction strides generalizing node with
  | nil => cases h
  | cons s more ih =>
    simp only [walkFrom] at h
    split at h
    · cases h
    · rename_i hs
      cases h
      exact ⟨(slotAt_leaf hs).1, (slotAt_leaf hs).2.1⟩
    · exact ih h

/-- A walk that ends in a leaf ends in a symbol below 256 with the length of its code. -/
theorem walk_leaf {W : BitVec 32} {sym len : Nat} (h : walk W = .leaf sym len) :
    sym < 256 ∧ len = (huffCodeOf sym).len := walkFrom_leaf h

/-- All that a leaf can do: emit its symbol and consume its bits, all of them in the payload; or end the decode with
fewer than 8 bits left; or fail (42_huffman R176 lines 10 to 14). -/
theorem huffLeaf_cases (sym len : Nat) (r : HuffRegs) :
    (len ≤ bitsRead r.payload r.bitpos ∧
        huffLeaf sym len r =
          .more { r with bitpos := r.bitpos + len, text := r.text ++ [BitVec.ofNat 8 sym] }) ∨
      (bitsRead r.payload r.bitpos < len ∧ huffLeaf sym len r = huffUnmatched r) := by
  unfold huffLeaf
  split
  · exact .inl ⟨by assumption, rfl⟩
  · exact .inr ⟨by omega, rfl⟩

theorem huffUnmatched_cases (r : HuffRegs) :
    huffUnmatched r = .finished r.text ∨ huffUnmatched r = .failed := by
  unfold huffUnmatched; split <;> simp

/-- All that a turn of `HUFF.DEC` that goes on can do: one symbol more, at least five bits consumed, none beyond the
payload (42_huffman R180). -/
theorem huffTurn_more {r r' : HuffRegs} (h : huffTurn r = .more r') :
    ∃ sym < 256, r'.payload = r.payload ∧ r'.bitpos = r.bitpos + (huffCodeOf sym).len ∧
      r'.text = r.text ++ [BitVec.ofNat 8 sym] ∧ r.bitpos + 5 ≤ r'.bitpos ∧ r'.bitpos ≤ 8 * r.payload.length := by
  unfold huffTurn at h
  split at h
  · cases h
  · split at h
    · cases h
    · rename_i sym len hw
      obtain ⟨hs, rfl⟩ := walk_leaf hw
      rcases huffLeaf_cases sym (huffCodeOf sym).len r with ⟨hle, he⟩ | ⟨_, he⟩
      · rw [he] at h
        cases h
        have := huffCodeOf_bounds (show sym < 257 by omega)
        simp only [bitsRead, bitsAvailable] at hle
        refine ⟨sym, hs, rfl, rfl, rfl, ?_, ?_⟩ <;> dsimp only <;> omega
      · rw [he] at h
        rcases huffUnmatched_cases r with hu | hu <;> rw [hu] at h <;> cases h
    · rcases huffUnmatched_cases r with hu | hu <;> rw [hu] at h <;> cases h

end Sys2Proof.Machine
end

