-- ==== Sys2Proof/Laws/Memory.lean ====
section
/-!
SUPPORT. The input buffer: every operation keeps the canonical form, a read after a write, and what a loaded block
reads as.
-/

namespace Sys2Proof.Machine

theorem Memory.mem_write {m : Memory} {a : Nat} {v : Octet} {c : Host.Cell} (h : c ∈ m.write a v) :
    c ∈ m ∨ c = (a, v) ∧ v ≠ Memory.unlisted := by
  induction m with
  | nil => simp only [Memory.write] at h; split at h <;> simp_all
  | cons d m ih =>
    simp only [Memory.write] at h
    split at h
    · split at h
      · exact .inl h
      · rcases List.mem_cons.1 h with rfl | h
        · exact .inr ⟨rfl, by assumption⟩
        · exact .inl h
    · split at h
      · split at h
        · exact .inl (List.mem_cons_of_mem _ h)
        · rcases List.mem_cons.1 h with rfl | h
          · exact .inr ⟨rfl, by assumption⟩
          · exact .inl (List.mem_cons_of_mem _ h)
      · rcases List.mem_cons.1 h with rfl | h
        · simp
        · rcases ih h with h | h <;> simp [h]

/-- A write keeps the canonical form. -/
theorem Memory.write_wf {m : Memory} (hm : m.wf) (a : Nat) (v : Octet) : (m.write a v).wf := by
  refine ⟨?_, fun c hc => ?_⟩
  · induction m with
    | nil => simp only [Memory.write]; split <;> simp
    | cons d m ih =>
      obtain ⟨hs, hz⟩ := hm
      rw [List.pairwise_cons] at hs
      have hm' : Memory.wf m := ⟨hs.2, fun c hc => hz c (List.mem_cons_of_mem _ hc)⟩
      simp only [Memory.write]
      split
      · split
        · exact List.pairwise_cons.2 hs
        · refine List.pairwise_cons.2 ⟨fun c hc => ?_, List.pairwise_cons.2 hs⟩
          rcases List.mem_cons.1 hc with rfl | hc
          · assumption
          · exact lt_trans (by assumption) (hs.1 c hc)
      · split
        · split
          · exact hs.2
          · refine List.pairwise_cons.2 ⟨fun c hc => ?_, hs.2⟩
            have := hs.1 c hc
            simp_all
        · refine List.pairwise_cons.2 ⟨fun c hc => ?_, ih hm'⟩
          rcases Memory.mem_write hc with hc | ⟨rfl, _⟩
          · exact hs.1 c hc
          · simp only; omega
  · rcases Memory.mem_write hc with hc | ⟨rfl, hv⟩
    · exact hm.2 c hc
    · exact hv

theorem Memory.load_wf {m : Memory} (hm : m.wf) (a : Nat) (bs : Octets) : (m.load a bs).wf := by
  induction bs generalizing m a with
  | nil => exact hm
  | cons v bs ih => exact ih (Memory.write_wf hm a v) (a + 1)

/-- The buffer of a block is in canonical form. -/
theorem Memory.ofBlock_wf (bs : Octets) : (Memory.ofBlock bs).wf :=
  Memory.load_wf (by simp [Memory.wf]) 0 bs

theorem Memory.read_cons (c : Host.Cell) (m : Memory) (a : Nat) :
    Memory.read (c :: m) a = if c.1 = a then c.2 else m.read a := by
  by_cases h : c.1 = a
  · simp [Memory.read, h]
  · simp [Memory.read, beq_eq_false_iff_ne.2 h, h]

theorem Memory.read_nil (a : Nat) : Memory.read [] a = Memory.unlisted := rfl

/-- An address below every listed one reads as unlisted. -/
theorem Memory.read_of_lt {m : Memory} {a : Nat} (h : ∀ c ∈ m, a < c.1) : m.read a = Memory.unlisted := by
  induction m with
  | nil => rfl
  | cons c m ih =>
    have hc := h c (List.mem_cons_self ..)
    rw [Memory.read_cons, if_neg (by omega), ih fun d hd => h d (List.mem_cons_of_mem _ hd)]

/-- What a read gives after a write. -/
theorem Memory.read_write {m : Memory} (hm : m.wf) (a : Nat) (v : Octet) (b : Nat) :
    (m.write a v).read b = if b = a then v else m.read b := by
  induction m with
  | nil =>
    simp only [Memory.write]
    split
    · split <;> simp_all [Memory.read_nil]
    · rw [Memory.read_cons]; simp only [eq_comm]
  | cons d m ih =>
    obtain ⟨hs, hz⟩ := hm
    rw [List.pairwise_cons] at hs
    have hm' : Memory.wf m := ⟨hs.2, fun c hc => hz c (List.mem_cons_of_mem _ hc)⟩
    have below (h : a < d.1) : ∀ c ∈ d :: m, a < c.1 := by
      intro c hc
      rcases List.mem_cons.1 hc with rfl | hc
      · exact h
      · exact lt_trans h (hs.1 c hc)
    simp only [Memory.write]
    split
    · rename_i h
      split
      · rename_i hv
        split
        · rename_i hb; subst hb; rw [hv]; exact Memory.read_of_lt (below h)
        · rfl
      · rw [Memory.read_cons]; simp only [eq_comm]
    · split
      · rename_i h1 h2
        split
        · rename_i hv
          by_cases hb : b = a
          · subst hb
            rw [if_pos rfl, hv]
            exact Memory.read_of_lt fun c hc => by have := hs.1 c hc; omega
          · rw [if_neg hb, Memory.read_cons, if_neg (by omega)]
        · rw [Memory.read_cons, Memory.read_cons]
          by_cases hb : b = a
          · simp [hb]
          · rw [if_neg (by simpa using fun h => hb h.symm), if_neg hb, if_neg (by omega)]
      · rw [Memory.read_cons, Memory.read_cons, ih hm']
        by_cases hd : d.1 = b
        · rw [if_pos hd, if_pos hd, if_neg (by omega)]
        · rw [if_neg hd, if_neg hd]

theorem Memory.read_load {m : Memory} (hm : m.wf) (a : Nat) (bs : Octets) (b : Nat) :
    (m.load a bs).read b = if a ≤ b ∧ b < a + bs.length then bs.getD (b - a) 0 else m.read b := by
  induction bs generalizing m a with
  | nil => simp only [Memory.load, List.length_nil]; rw [if_neg (by omega)]
  | cons v bs ih =>
    simp only [Memory.load, ih (Memory.write_wf hm a v), Memory.read_write hm, List.length_cons]
    by_cases h1 : b = a
    · subst h1
      rw [if_neg (by omega), if_pos rfl, if_pos (by omega)]
      simp
    · by_cases h2 : a + 1 ≤ b ∧ b < a + 1 + bs.length
      · obtain ⟨k, rfl⟩ : ∃ k, b = a + 1 + k := ⟨b - (a + 1), by omega⟩
        rw [if_pos h2, if_pos (by omega), show a + 1 + k - (a + 1) = k by omega,
          show a + 1 + k - a = k + 1 by omega, List.getD_cons_succ]
      · rw [if_neg h2, if_neg h1, if_neg (by omega)]

/-- The octet of a loaded block at an offset (20_memory R61). -/
theorem Memory.read_ofBlock (bs : Octets) (p : Nat) : (Memory.ofBlock bs).read p = bs.getD p 0 := by
  rw [Memory.ofBlock, Memory.read_load (by simp [Memory.wf])]
  by_cases h : p < bs.length
  · rw [if_pos (by omega)]; simp
  · rw [if_neg (by omega), Memory.read_nil, List.getD_eq_default _ _ (by omega)]; rfl

@[simp] theorem Memory.readRange_length (m : Memory) (a n : Nat) : (m.readRange a n).length = n := by
  simp [Memory.readRange]

theorem Memory.readRange_drop (m : Memory) (a n k : Nat) :
    (m.readRange a n).drop k = m.readRange (a + k) (n - k) := by
  apply List.ext_getElem
  · simp
  · intro i h1 h2; simp [Memory.readRange, Nat.add_assoc]

@[simp] theorem State.octetsFrom_length (s : State) (p : Nat) : (s.octetsFrom p).length = s.len - p := by
  simp [State.octetsFrom]

/-- The octets from a later offset are what is left of those from an earlier one. -/
theorem State.octetsFrom_drop (s : State) (p k : Nat) : (s.octetsFrom p).drop k = s.octetsFrom (p + k) := by
  rw [State.octetsFrom, State.octetsFrom, Memory.readRange_drop, Nat.sub_sub]

/-- The first octet from an offset inside the block (45_dispatch R237). -/
theorem State.octetsFrom_cons (s : State) {p : Nat} (h : p < s.len) :
    s.octetsFrom p = s.block.read p :: s.octetsFrom (p + 1) := by
  obtain ⟨n, hn⟩ : ∃ n, s.len - p = n + 1 := ⟨s.len - p - 1, by omega⟩
  rw [State.octetsFrom, State.octetsFrom, hn, show s.len - (p + 1) = n by omega]
  apply List.ext_getElem
  · simp
  · intro i h1 h2
    cases i with
    | zero => simp [Memory.readRange]
    | succ i => simp only [Memory.readRange, List.getElem_map, List.getElem_range, List.getElem_cons_succ]; congr 1; omega

/-- A block that has just been loaded is read back whole. -/
theorem Memory.readRange_ofBlock (bs : Octets) (p : Nat) :
    (Memory.ofBlock bs).readRange p (bs.length - p) = bs.drop p := by
  apply List.ext_getElem
  · simp
  · intro i h1 h2
    rw [List.length_drop] at h2
    have hi : p + i < bs.length := by omega
    simp [Memory.readRange, Memory.read_ofBlock, hi]

end Sys2Proof.Machine
end

