-- ==== Sys2Proof/Laws/PerInstr.lean ====
section
/-!
SUPPORT. The family TableRow, one lemma per constructor of `Instr`: the first octet of an instruction's encoding lies
in its row of spec/opcode_table.json (the row's mask and match of 30_encoding R91 and R97, or the leading bits of its
code, 43_huffman_table R201).
-/

namespace Sys2Proof.Laws.TableRow

open Sys2Proof Sys2Proof.Machine

/-- The first octet lies in the row of the instruction's form. -/
def headMatches (f : Form) (b : Octet) : Bool :=
  match f with
  | .indexed _ => b &&& 0x80 == 0x80
  | .literal .incremental _ _ => b &&& 0xC0 == 0x40
  | .literal .never _ _ => b &&& 0xF0 == 0x10
  | .literal .without _ _ => b &&& 0xF0 == 0x00
  | .sizeUpdate _ => b &&& 0xE0 == 0x20
  | .string lit => b &&& 0x80 == if lit.huffman then 0x80 else 0x00
  | .code sym =>
    let c := huffCodeOf sym
    b.toNat >>> (8 - min 8 c.len) == c.code >>> (c.len - min 8 c.len)

/-- The encoding of an instruction begins with an octet of its row. -/
def Statement (i : Instr) : Prop := ∃ b rest, encode i = b :: rest ∧ headMatches i.form b = true

theorem intEnc_head (v width : Nat) (flags : Octet) :
    ∃ x rest, x < 2 ^ width ∧ intEnc v width flags = (flags ||| BitVec.ofNat 8 x) :: rest := by
  have hw : 0 < 2 ^ width := Nat.two_pow_pos width
  unfold intEnc
  split
  · rename_i h; exact ⟨v, [], by simp only [prefixMax] at h; omega, rfl⟩
  · exact ⟨prefixMax width, _, by simp only [prefixMax]; omega, rfl⟩

theorem heads7 : ∀ x < 2 ^ 7, ((0x80 : Octet) ||| BitVec.ofNat 8 x) &&& 0x80 = 0x80 := by decide
theorem heads7_raw : ∀ x < 2 ^ 7, ((0x00 : Octet) ||| BitVec.ofNat 8 x) &&& 0x80 = 0x00 := by decide
theorem heads6 : ∀ x < 2 ^ 6, ((0x40 : Octet) ||| BitVec.ofNat 8 x) &&& 0xC0 = 0x40 := by decide
theorem heads5 : ∀ x < 2 ^ 5, ((0x20 : Octet) ||| BitVec.ofNat 8 x) &&& 0xE0 = 0x20 := by decide
theorem heads4_never : ∀ x < 2 ^ 4, ((0x10 : Octet) ||| BitVec.ofNat 8 x) &&& 0xF0 = 0x10 := by decide
theorem heads4_without : ∀ x < 2 ^ 4, ((0x00 : Octet) ||| BitVec.ofNat 8 x) &&& 0xF0 = 0x00 := by decide

theorem of_literal (kind : LiteralKind) (name : NameRef) (value : StrLit) :
    Statement (literalInstr kind name value) := by
  have hname : ∃ x rest, x < 2 ^ literalWidth kind ∧
      encodeName kind name = (literalTypeBits kind ||| BitVec.ofNat 8 x) :: rest := by
    cases name with
    | byIndex index => exact intEnc_head index _ _
    | literal lit =>
      obtain ⟨x, rest, hx, h⟩ := intEnc_head 0 (literalWidth kind) (literalTypeBits kind)
      exact ⟨x, rest ++ encodeString lit, hx, by rw [encodeName, h]; rfl⟩
  obtain ⟨x, rest, hx, h⟩ := hname
  refine ⟨literalTypeBits kind ||| BitVec.ofNat 8 x, rest ++ encodeString value, ?_, ?_⟩
  · cases kind <;> simp only [literalInstr, encode, Instr.form, h, List.cons_append]
  · cases kind
    · exact beq_iff_eq.2 (heads6 x hx)
    · exact beq_iff_eq.2 (heads4_never x hx)
    · exact beq_iff_eq.2 (heads4_without x hx)

/-- The first octet of a code on its own, for every symbol. -/
def codeHead (sym : Nat) : Bool :=
  match encodeCode sym with
  | [] => false
  | b :: _ => headMatches (.code sym) b

theorem codeHead_all : (List.range 257).all codeHead = true := by decide +kernel

theorem of_code {i : Instr} (sym : Nat) (hi : i.form = .code sym) (h : sym < 257) : Statement i := by
  have hc := List.all_eq_true.1 codeHead_all sym (List.mem_range.2 h)
  unfold codeHead at hc
  split at hc
  · cases hc
  · rename_i b rest he
    exact ⟨b, rest, by rw [encode, hi]; exact he, by rw [hi]; exact hc⟩

theorem indexed (index : Nat) : Statement (.indexed index) := by
  obtain ⟨x, rest, hx, h⟩ := intEnc_head index 7 0x80
  exact ⟨_, rest, h, beq_iff_eq.2 (heads7 x hx)⟩

theorem sizeupd (new : Nat) : Statement (.sizeupd new) := by
  obtain ⟨x, rest, hx, h⟩ := intEnc_head new 5 0x20
  exact ⟨_, rest, h, beq_iff_eq.2 (heads5 x hx)⟩

theorem litinc (name : NameRef) (value : StrLit) : Statement (.litinc name value) :=
  of_literal .incremental name value

theorem litnever (name : NameRef) (value : StrLit) : Statement (.litnever name value) :=
  of_literal .never name value

theorem litnoidx (name : NameRef) (value : StrLit) : Statement (.litnoidx name value) :=
  of_literal .without name value

theorem strRaw (payload : Octets) : Statement (.strRaw payload) := by
  obtain ⟨x, rest, hx, h⟩ := intEnc_head payload.length 7 0x00
  exact ⟨_, rest ++ payload, congrArg (· ++ payload) h, beq_iff_eq.2 (heads7_raw x hx)⟩

theorem strHuff (payload : Octets) : Statement (.strHuff payload) := by
  obtain ⟨x, rest, hx, h⟩ := intEnc_head payload.length 7 0x80
  exact ⟨_, rest ++ payload, congrArg (· ++ payload) h, beq_iff_eq.2 (heads7 x hx)⟩

theorem huff0 : Statement .huff0 := of_code 0 rfl (by omega)
theorem huff1 : Statement .huff1 := of_code 1 rfl (by omega)
theorem huff2 : Statement .huff2 := of_code 2 rfl (by omega)
theorem huff3 : Statement .huff3 := of_code 3 rfl (by omega)
theorem huff4 : Statement .huff4 := of_code 4 rfl (by omega)
theorem huff5 : Statement .huff5 := of_code 5 rfl (by omega)
theorem huff6 : Statement .huff6 := of_code 6 rfl (by omega)
theorem huff7 : Statement .huff7 := of_code 7 rfl (by omega)
theorem huff8 : Statement .huff8 := of_code 8 rfl (by omega)
theorem huff9 : Statement .huff9 := of_code 9 rfl (by omega)
theorem huff10 : Statement .huff10 := of_code 10 rfl (by omega)
theorem huff11 : Statement .huff11 := of_code 11 rfl (by omega)
theorem huff12 : Statement .huff12 := of_code 12 rfl (by omega)
theorem huff13 : Statement .huff13 := of_code 13 rfl (by omega)
theorem huff14 : Statement .huff14 := of_code 14 rfl (by omega)
theorem huff15 : Statement .huff15 := of_code 15 rfl (by omega)
theorem huff16 : Statement .huff16 := of_code 16 rfl (by omega)
theorem huff17 : Statement .huff17 := of_code 17 rfl (by omega)
theorem huff18 : Statement .huff18 := of_code 18 rfl (by omega)
theorem huff19 : Statement .huff19 := of_code 19 rfl (by omega)
theorem huff20 : Statement .huff20 := of_code 20 rfl (by omega)
theorem huff21 : Statement .huff21 := of_code 21 rfl (by omega)
theorem huff22 : Statement .huff22 := of_code 22 rfl (by omega)
theorem huff23 : Statement .huff23 := of_code 23 rfl (by omega)
theorem huff24 : Statement .huff24 := of_code 24 rfl (by omega)
theorem huff25 : Statement .huff25 := of_code 25 rfl (by omega)
theorem huff26 : Statement .huff26 := of_code 26 rfl (by omega)
theorem huff27 : Statement .huff27 := of_code 27 rfl (by omega)
theorem huff28 : Statement .huff28 := of_code 28 rfl (by omega)
theorem huff29 : Statement .huff29 := of_code 29 rfl (by omega)
theorem huff30 : Statement .huff30 := of_code 30 rfl (by omega)
theorem huff31 : Statement .huff31 := of_code 31 rfl (by omega)
theorem huff32 : Statement .huff32 := of_code 32 rfl (by omega)
theorem huff33 : Statement .huff33 := of_code 33 rfl (by omega)
theorem huff34 : Statement .huff34 := of_code 34 rfl (by omega)
theorem huff35 : Statement .huff35 := of_code 35 rfl (by omega)
theorem huff36 : Statement .huff36 := of_code 36 rfl (by omega)
theorem huff37 : Statement .huff37 := of_code 37 rfl (by omega)
theorem huff38 : Statement .huff38 := of_code 38 rfl (by omega)
theorem huff39 : Statement .huff39 := of_code 39 rfl (by omega)
theorem huff40 : Statement .huff40 := of_code 40 rfl (by omega)
theorem huff41 : Statement .huff41 := of_code 41 rfl (by omega)
theorem huff42 : Statement .huff42 := of_code 42 rfl (by omega)
theorem huff43 : Statement .huff43 := of_code 43 rfl (by omega)
theorem huff44 : Statement .huff44 := of_code 44 rfl (by omega)
theorem huff45 : Statement .huff45 := of_code 45 rfl (by omega)
theorem huff46 : Statement .huff46 := of_code 46 rfl (by omega)
theorem huff47 : Statement .huff47 := of_code 47 rfl (by omega)
theorem huff48 : Statement .huff48 := of_code 48 rfl (by omega)
theorem huff49 : Statement .huff49 := of_code 49 rfl (by omega)
theorem huff50 : Statement .huff50 := of_code 50 rfl (by omega)
theorem huff51 : Statement .huff51 := of_code 51 rfl (by omega)
theorem huff52 : Statement .huff52 := of_code 52 rfl (by omega)
theorem huff53 : Statement .huff53 := of_code 53 rfl (by omega)
theorem huff54 : Statement .huff54 := of_code 54 rfl (by omega)
theorem huff55 : Statement .huff55 := of_code 55 rfl (by omega)
theorem huff56 : Statement .huff56 := of_code 56 rfl (by omega)
theorem huff57 : Statement .huff57 := of_code 57 rfl (by omega)
theorem huff58 : Statement .huff58 := of_code 58 rfl (by omega)
theorem huff59 : Statement .huff59 := of_code 59 rfl (by omega)
theorem huff60 : Statement .huff60 := of_code 60 rfl (by omega)
theorem huff61 : Statement .huff61 := of_code 61 rfl (by omega)
theorem huff62 : Statement .huff62 := of_code 62 rfl (by omega)
theorem huff63 : Statement .huff63 := of_code 63 rfl (by omega)
theorem huff64 : Statement .huff64 := of_code 64 rfl (by omega)
theorem huff65 : Statement .huff65 := of_code 65 rfl (by omega)
theorem huff66 : Statement .huff66 := of_code 66 rfl (by omega)
theorem huff67 : Statement .huff67 := of_code 67 rfl (by omega)
theorem huff68 : Statement .huff68 := of_code 68 rfl (by omega)
theorem huff69 : Statement .huff69 := of_code 69 rfl (by omega)
theorem huff70 : Statement .huff70 := of_code 70 rfl (by omega)
theorem huff71 : Statement .huff71 := of_code 71 rfl (by omega)
theorem huff72 : Statement .huff72 := of_code 72 rfl (by omega)
theorem huff73 : Statement .huff73 := of_code 73 rfl (by omega)
theorem huff74 : Statement .huff74 := of_code 74 rfl (by omega)
theorem huff75 : Statement .huff75 := of_code 75 rfl (by omega)
theorem huff76 : Statement .huff76 := of_code 76 rfl (by omega)
theorem huff77 : Statement .huff77 := of_code 77 rfl (by omega)
theorem huff78 : Statement .huff78 := of_code 78 rfl (by omega)
theorem huff79 : Statement .huff79 := of_code 79 rfl (by omega)
theorem huff80 : Statement .huff80 := of_code 80 rfl (by omega)
theorem huff81 : Statement .huff81 := of_code 81 rfl (by omega)
theorem huff82 : Statement .huff82 := of_code 82 rfl (by omega)
theorem huff83 : Statement .huff83 := of_code 83 rfl (by omega)
theorem huff84 : Statement .huff84 := of_code 84 rfl (by omega)
theorem huff85 : Statement .huff85 := of_code 85 rfl (by omega)
theorem huff86 : Statement .huff86 := of_code 86 rfl (by omega)
theorem huff87 : Statement .huff87 := of_code 87 rfl (by omega)
theorem huff88 : Statement .huff88 := of_code 88 rfl (by omega)
theorem huff89 : Statement .huff89 := of_code 89 rfl (by omega)
theorem huff90 : Statement .huff90 := of_code 90 rfl (by omega)
theorem huff91 : Statement .huff91 := of_code 91 rfl (by omega)
theorem huff92 : Statement .huff92 := of_code 92 rfl (by omega)
theorem huff93 : Statement .huff93 := of_code 93 rfl (by omega)
theorem huff94 : Statement .huff94 := of_code 94 rfl (by omega)
theorem huff95 : Statement .huff95 := of_code 95 rfl (by omega)
theorem huff96 : Statement .huff96 := of_code 96 rfl (by omega)
theorem huff97 : Statement .huff97 := of_code 97 rfl (by omega)
theorem huff98 : Statement .huff98 := of_code 98 rfl (by omega)
theorem huff99 : Statement .huff99 := of_code 99 rfl (by omega)
theorem huff100 : Statement .huff100 := of_code 100 rfl (by omega)
theorem huff101 : Statement .huff101 := of_code 101 rfl (by omega)
theorem huff102 : Statement .huff102 := of_code 102 rfl (by omega)
theorem huff103 : Statement .huff103 := of_code 103 rfl (by omega)
theorem huff104 : Statement .huff104 := of_code 104 rfl (by omega)
theorem huff105 : Statement .huff105 := of_code 105 rfl (by omega)
theorem huff106 : Statement .huff106 := of_code 106 rfl (by omega)
theorem huff107 : Statement .huff107 := of_code 107 rfl (by omega)
theorem huff108 : Statement .huff108 := of_code 108 rfl (by omega)
theorem huff109 : Statement .huff109 := of_code 109 rfl (by omega)
theorem huff110 : Statement .huff110 := of_code 110 rfl (by omega)
theorem huff111 : Statement .huff111 := of_code 111 rfl (by omega)
theorem huff112 : Statement .huff112 := of_code 112 rfl (by omega)
theorem huff113 : Statement .huff113 := of_code 113 rfl (by omega)
theorem huff114 : Statement .huff114 := of_code 114 rfl (by omega)
theorem huff115 : Statement .huff115 := of_code 115 rfl (by omega)
theorem huff116 : Statement .huff116 := of_code 116 rfl (by omega)
theorem huff117 : Statement .huff117 := of_code 117 rfl (by omega)
theorem huff118 : Statement .huff118 := of_code 118 rfl (by omega)
theorem huff119 : Statement .huff119 := of_code 119 rfl (by omega)
theorem huff120 : Statement .huff120 := of_code 120 rfl (by omega)
theorem huff121 : Statement .huff121 := of_code 121 rfl (by omega)
theorem huff122 : Statement .huff122 := of_code 122 rfl (by omega)
theorem huff123 : Statement .huff123 := of_code 123 rfl (by omega)
theorem huff124 : Statement .huff124 := of_code 124 rfl (by omega)
theorem huff125 : Statement .huff125 := of_code 125 rfl (by omega)
theorem huff126 : Statement .huff126 := of_code 126 rfl (by omega)
theorem huff127 : Statement .huff127 := of_code 127 rfl (by omega)
theorem huff128 : Statement .huff128 := of_code 128 rfl (by omega)
theorem huff129 : Statement .huff129 := of_code 129 rfl (by omega)
theorem huff130 : Statement .huff130 := of_code 130 rfl (by omega)
theorem huff131 : Statement .huff131 := of_code 131 rfl (by omega)
theorem huff132 : Statement .huff132 := of_code 132 rfl (by omega)
theorem huff133 : Statement .huff133 := of_code 133 rfl (by omega)
theorem huff134 : Statement .huff134 := of_code 134 rfl (by omega)
theorem huff135 : Statement .huff135 := of_code 135 rfl (by omega)
theorem huff136 : Statement .huff136 := of_code 136 rfl (by omega)
theorem huff137 : Statement .huff137 := of_code 137 rfl (by omega)
theorem huff138 : Statement .huff138 := of_code 138 rfl (by omega)
theorem huff139 : Statement .huff139 := of_code 139 rfl (by omega)
theorem huff140 : Statement .huff140 := of_code 140 rfl (by omega)
theorem huff141 : Statement .huff141 := of_code 141 rfl (by omega)
theorem huff142 : Statement .huff142 := of_code 142 rfl (by omega)
theorem huff143 : Statement .huff143 := of_code 143 rfl (by omega)
theorem huff144 : Statement .huff144 := of_code 144 rfl (by omega)
theorem huff145 : Statement .huff145 := of_code 145 rfl (by omega)
theorem huff146 : Statement .huff146 := of_code 146 rfl (by omega)
theorem huff147 : Statement .huff147 := of_code 147 rfl (by omega)
theorem huff148 : Statement .huff148 := of_code 148 rfl (by omega)
theorem huff149 : Statement .huff149 := of_code 149 rfl (by omega)
theorem huff150 : Statement .huff150 := of_code 150 rfl (by omega)
theorem huff151 : Statement .huff151 := of_code 151 rfl (by omega)
theorem huff152 : Statement .huff152 := of_code 152 rfl (by omega)
theorem huff153 : Statement .huff153 := of_code 153 rfl (by omega)
theorem huff154 : Statement .huff154 := of_code 154 rfl (by omega)
theorem huff155 : Statement .huff155 := of_code 155 rfl (by omega)
theorem huff156 : Statement .huff156 := of_code 156 rfl (by omega)
theorem huff157 : Statement .huff157 := of_code 157 rfl (by omega)
theorem huff158 : Statement .huff158 := of_code 158 rfl (by omega)
theorem huff159 : Statement .huff159 := of_code 159 rfl (by omega)
theorem huff160 : Statement .huff160 := of_code 160 rfl (by omega)
theorem huff161 : Statement .huff161 := of_code 161 rfl (by omega)
theorem huff162 : Statement .huff162 := of_code 162 rfl (by omega)
theorem huff163 : Statement .huff163 := of_code 163 rfl (by omega)
theorem huff164 : Statement .huff164 := of_code 164 rfl (by omega)
theorem huff165 : Statement .huff165 := of_code 165 rfl (by omega)
theorem huff166 : Statement .huff166 := of_code 166 rfl (by omega)
theorem huff167 : Statement .huff167 := of_code 167 rfl (by omega)
theorem huff168 : Statement .huff168 := of_code 168 rfl (by omega)
theorem huff169 : Statement .huff169 := of_code 169 rfl (by omega)
theorem huff170 : Statement .huff170 := of_code 170 rfl (by omega)
theorem huff171 : Statement .huff171 := of_code 171 rfl (by omega)
theorem huff172 : Statement .huff172 := of_code 172 rfl (by omega)
theorem huff173 : Statement .huff173 := of_code 173 rfl (by omega)
theorem huff174 : Statement .huff174 := of_code 174 rfl (by omega)
theorem huff175 : Statement .huff175 := of_code 175 rfl (by omega)
theorem huff176 : Statement .huff176 := of_code 176 rfl (by omega)
theorem huff177 : Statement .huff177 := of_code 177 rfl (by omega)
theorem huff178 : Statement .huff178 := of_code 178 rfl (by omega)
theorem huff179 : Statement .huff179 := of_code 179 rfl (by omega)
theorem huff180 : Statement .huff180 := of_code 180 rfl (by omega)
theorem huff181 : Statement .huff181 := of_code 181 rfl (by omega)
theorem huff182 : Statement .huff182 := of_code 182 rfl (by omega)
theorem huff183 : Statement .huff183 := of_code 183 rfl (by omega)
theorem huff184 : Statement .huff184 := of_code 184 rfl (by omega)
theorem huff185 : Statement .huff185 := of_code 185 rfl (by omega)
theorem huff186 : Statement .huff186 := of_code 186 rfl (by omega)
theorem huff187 : Statement .huff187 := of_code 187 rfl (by omega)
theorem huff188 : Statement .huff188 := of_code 188 rfl (by omega)
theorem huff189 : Statement .huff189 := of_code 189 rfl (by omega)
theorem huff190 : Statement .huff190 := of_code 190 rfl (by omega)
theorem huff191 : Statement .huff191 := of_code 191 rfl (by omega)
theorem huff192 : Statement .huff192 := of_code 192 rfl (by omega)
theorem huff193 : Statement .huff193 := of_code 193 rfl (by omega)
theorem huff194 : Statement .huff194 := of_code 194 rfl (by omega)
theorem huff195 : Statement .huff195 := of_code 195 rfl (by omega)
theorem huff196 : Statement .huff196 := of_code 196 rfl (by omega)
theorem huff197 : Statement .huff197 := of_code 197 rfl (by omega)
theorem huff198 : Statement .huff198 := of_code 198 rfl (by omega)
theorem huff199 : Statement .huff199 := of_code 199 rfl (by omega)
theorem huff200 : Statement .huff200 := of_code 200 rfl (by omega)
theorem huff201 : Statement .huff201 := of_code 201 rfl (by omega)
theorem huff202 : Statement .huff202 := of_code 202 rfl (by omega)
theorem huff203 : Statement .huff203 := of_code 203 rfl (by omega)
theorem huff204 : Statement .huff204 := of_code 204 rfl (by omega)
theorem huff205 : Statement .huff205 := of_code 205 rfl (by omega)
theorem huff206 : Statement .huff206 := of_code 206 rfl (by omega)
theorem huff207 : Statement .huff207 := of_code 207 rfl (by omega)
theorem huff208 : Statement .huff208 := of_code 208 rfl (by omega)
theorem huff209 : Statement .huff209 := of_code 209 rfl (by omega)
theorem huff210 : Statement .huff210 := of_code 210 rfl (by omega)
theorem huff211 : Statement .huff211 := of_code 211 rfl (by omega)
theorem huff212 : Statement .huff212 := of_code 212 rfl (by omega)
theorem huff213 : Statement .huff213 := of_code 213 rfl (by omega)
theorem huff214 : Statement .huff214 := of_code 214 rfl (by omega)
theorem huff215 : Statement .huff215 := of_code 215 rfl (by omega)
theorem huff216 : Statement .huff216 := of_code 216 rfl (by omega)
theorem huff217 : Statement .huff217 := of_code 217 rfl (by omega)
theorem huff218 : Statement .huff218 := of_code 218 rfl (by omega)
theorem huff219 : Statement .huff219 := of_code 219 rfl (by omega)
theorem huff220 : Statement .huff220 := of_code 220 rfl (by omega)
theorem huff221 : Statement .huff221 := of_code 221 rfl (by omega)
theorem huff222 : Statement .huff222 := of_code 222 rfl (by omega)
theorem huff223 : Statement .huff223 := of_code 223 rfl (by omega)
theorem huff224 : Statement .huff224 := of_code 224 rfl (by omega)
theorem huff225 : Statement .huff225 := of_code 225 rfl (by omega)
theorem huff226 : Statement .huff226 := of_code 226 rfl (by omega)
theorem huff227 : Statement .huff227 := of_code 227 rfl (by omega)
theorem huff228 : Statement .huff228 := of_code 228 rfl (by omega)
theorem huff229 : Statement .huff229 := of_code 229 rfl (by omega)
theorem huff230 : Statement .huff230 := of_code 230 rfl (by omega)
theorem huff231 : Statement .huff231 := of_code 231 rfl (by omega)
theorem huff232 : Statement .huff232 := of_code 232 rfl (by omega)
theorem huff233 : Statement .huff233 := of_code 233 rfl (by omega)
theorem huff234 : Statement .huff234 := of_code 234 rfl (by omega)
theorem huff235 : Statement .huff235 := of_code 235 rfl (by omega)
theorem huff236 : Statement .huff236 := of_code 236 rfl (by omega)
theorem huff237 : Statement .huff237 := of_code 237 rfl (by omega)
theorem huff238 : Statement .huff238 := of_code 238 rfl (by omega)
theorem huff239 : Statement .huff239 := of_code 239 rfl (by omega)
theorem huff240 : Statement .huff240 := of_code 240 rfl (by omega)
theorem huff241 : Statement .huff241 := of_code 241 rfl (by omega)
theorem huff242 : Statement .huff242 := of_code 242 rfl (by omega)
theorem huff243 : Statement .huff243 := of_code 243 rfl (by omega)
theorem huff244 : Statement .huff244 := of_code 244 rfl (by omega)
theorem huff245 : Statement .huff245 := of_code 245 rfl (by omega)
theorem huff246 : Statement .huff246 := of_code 246 rfl (by omega)
theorem huff247 : Statement .huff247 := of_code 247 rfl (by omega)
theorem huff248 : Statement .huff248 := of_code 248 rfl (by omega)
theorem huff249 : Statement .huff249 := of_code 249 rfl (by omega)
theorem huff250 : Statement .huff250 := of_code 250 rfl (by omega)
theorem huff251 : Statement .huff251 := of_code 251 rfl (by omega)
theorem huff252 : Statement .huff252 := of_code 252 rfl (by omega)
theorem huff253 : Statement .huff253 := of_code 253 rfl (by omega)
theorem huff254 : Statement .huff254 := of_code 254 rfl (by omega)
theorem huff255 : Statement .huff255 := of_code 255 rfl (by omega)
theorem huffEOS : Statement .huffEOS := of_code 256 rfl (by omega)

end Sys2Proof.Laws.TableRow
end

