-- ==== Sys2Proof/Laws/State.lean ====
section
/-!
SUPPORT. For each named update of the state, each field after it: true by rfl, for simp.
-/

namespace Sys2Proof.Machine

variable (s : State)

/-! `State.emit` -/

@[simp] theorem State.emit_decLive (h : Header) : (s.emit h).decLive = s.decLive := rfl
@[simp] theorem State.emit_table (h : Header) : (s.emit h).table = s.table := rfl
@[simp] theorem State.emit_protoMax (h : Header) : (s.emit h).protoMax = s.protoMax := rfl
@[simp] theorem State.emit_intValueMax (h : Header) : (s.emit h).intValueMax = s.intValueMax := rfl
@[simp] theorem State.emit_intEncLenMax (h : Header) : (s.emit h).intEncLenMax = s.intEncLenMax := rfl
@[simp] theorem State.emit_strLenMax (h : Header) : (s.emit h).strLenMax = s.strLenMax := rfl
@[simp] theorem State.emit_phase (h : Header) : (s.emit h).phase = s.phase := rfl
@[simp] theorem State.emit_pos (h : Header) : (s.emit h).pos = s.pos := rfl
@[simp] theorem State.emit_err (h : Header) : (s.emit h).err = s.err := rfl
@[simp] theorem State.emit_out (h : Header) : (s.emit h).out = s.out ++ [h] := rfl
@[simp] theorem State.emit_encLive (h : Header) : (s.emit h).encLive = s.encLive := rfl
@[simp] theorem State.emit_eTable (h : Header) : (s.emit h).eTable = s.eTable := rfl
@[simp] theorem State.emit_pending (h : Header) : (s.emit h).pending = s.pending := rfl
@[simp] theorem State.emit_activity (h : Header) : (s.emit h).activity = s.activity := rfl
@[simp] theorem State.emit_block (h : Header) : (s.emit h).block = s.block := rfl
@[simp] theorem State.emit_len (h : Header) : (s.emit h).len = s.len := rfl
@[simp] theorem State.emit_commands (h : Header) : (s.emit h).commands = s.commands := rfl
@[simp] theorem State.emit_reply (h : Header) : (s.emit h).reply = s.reply := rfl
@[simp] theorem State.emit_freeCount (h : Header) : (s.emit h).freeCount = s.freeCount := rfl

/-! `State.insert` -/

@[simp] theorem State.insert_decLive (e : Entry) : (s.insert e).decLive = s.decLive := rfl
@[simp] theorem State.insert_table (e : Entry) : (s.insert e).table = s.table.add e := rfl
@[simp] theorem State.insert_protoMax (e : Entry) : (s.insert e).protoMax = s.protoMax := rfl
@[simp] theorem State.insert_intValueMax (e : Entry) : (s.insert e).intValueMax = s.intValueMax := rfl
@[simp] theorem State.insert_intEncLenMax (e : Entry) : (s.insert e).intEncLenMax = s.intEncLenMax := rfl
@[simp] theorem State.insert_strLenMax (e : Entry) : (s.insert e).strLenMax = s.strLenMax := rfl
@[simp] theorem State.insert_phase (e : Entry) : (s.insert e).phase = s.phase := rfl
@[simp] theorem State.insert_pos (e : Entry) : (s.insert e).pos = s.pos := rfl
@[simp] theorem State.insert_err (e : Entry) : (s.insert e).err = s.err := rfl
@[simp] theorem State.insert_out (e : Entry) : (s.insert e).out = s.out := rfl
@[simp] theorem State.insert_encLive (e : Entry) : (s.insert e).encLive = s.encLive := rfl
@[simp] theorem State.insert_eTable (e : Entry) : (s.insert e).eTable = s.eTable := rfl
@[simp] theorem State.insert_pending (e : Entry) : (s.insert e).pending = s.pending := rfl
@[simp] theorem State.insert_activity (e : Entry) : (s.insert e).activity = s.activity := rfl
@[simp] theorem State.insert_block (e : Entry) : (s.insert e).block = s.block := rfl
@[simp] theorem State.insert_len (e : Entry) : (s.insert e).len = s.len := rfl
@[simp] theorem State.insert_commands (e : Entry) : (s.insert e).commands = s.commands := rfl
@[simp] theorem State.insert_reply (e : Entry) : (s.insert e).reply = s.reply := rfl
@[simp] theorem State.insert_freeCount (e : Entry) : (s.insert e).freeCount = s.freeCount := rfl

/-! `State.advance` -/

@[simp] theorem State.advance_decLive (n : Nat) : (s.advance n).decLive = s.decLive := rfl
@[simp] theorem State.advance_table (n : Nat) : (s.advance n).table = s.table := rfl
@[simp] theorem State.advance_protoMax (n : Nat) : (s.advance n).protoMax = s.protoMax := rfl
@[simp] theorem State.advance_intValueMax (n : Nat) : (s.advance n).intValueMax = s.intValueMax := rfl
@[simp] theorem State.advance_intEncLenMax (n : Nat) : (s.advance n).intEncLenMax = s.intEncLenMax := rfl
@[simp] theorem State.advance_strLenMax (n : Nat) : (s.advance n).strLenMax = s.strLenMax := rfl
@[simp] theorem State.advance_phase (n : Nat) : (s.advance n).phase = s.phase := rfl
@[simp] theorem State.advance_pos (n : Nat) : (s.advance n).pos = s.pos + n := rfl
@[simp] theorem State.advance_err (n : Nat) : (s.advance n).err = s.err := rfl
@[simp] theorem State.advance_out (n : Nat) : (s.advance n).out = s.out := rfl
@[simp] theorem State.advance_encLive (n : Nat) : (s.advance n).encLive = s.encLive := rfl
@[simp] theorem State.advance_eTable (n : Nat) : (s.advance n).eTable = s.eTable := rfl
@[simp] theorem State.advance_pending (n : Nat) : (s.advance n).pending = s.pending := rfl
@[simp] theorem State.advance_activity (n : Nat) : (s.advance n).activity = s.activity := rfl
@[simp] theorem State.advance_block (n : Nat) : (s.advance n).block = s.block := rfl
@[simp] theorem State.advance_len (n : Nat) : (s.advance n).len = s.len := rfl
@[simp] theorem State.advance_commands (n : Nat) : (s.advance n).commands = s.commands := rfl
@[simp] theorem State.advance_reply (n : Nat) : (s.advance n).reply = s.reply := rfl
@[simp] theorem State.advance_freeCount (n : Nat) : (s.advance n).freeCount = s.freeCount := rfl

/-! `State.endField` -/

@[simp] theorem State.endField_decLive : (s.endField).decLive = s.decLive := rfl
@[simp] theorem State.endField_table : (s.endField).table = s.table := rfl
@[simp] theorem State.endField_protoMax : (s.endField).protoMax = s.protoMax := rfl
@[simp] theorem State.endField_intValueMax : (s.endField).intValueMax = s.intValueMax := rfl
@[simp] theorem State.endField_intEncLenMax : (s.endField).intEncLenMax = s.intEncLenMax := rfl
@[simp] theorem State.endField_strLenMax : (s.endField).strLenMax = s.strLenMax := rfl
@[simp] theorem State.endField_phase : (s.endField).phase = .awaitingField := rfl
@[simp] theorem State.endField_pos : (s.endField).pos = s.pos := rfl
@[simp] theorem State.endField_err : (s.endField).err = s.err := rfl
@[simp] theorem State.endField_out : (s.endField).out = s.out := rfl
@[simp] theorem State.endField_encLive : (s.endField).encLive = s.encLive := rfl
@[simp] theorem State.endField_eTable : (s.endField).eTable = s.eTable := rfl
@[simp] theorem State.endField_pending : (s.endField).pending = s.pending := rfl
@[simp] theorem State.endField_activity : (s.endField).activity = s.activity := rfl
@[simp] theorem State.endField_block : (s.endField).block = s.block := rfl
@[simp] theorem State.endField_len : (s.endField).len = s.len := rfl
@[simp] theorem State.endField_commands : (s.endField).commands = s.commands := rfl
@[simp] theorem State.endField_reply : (s.endField).reply = s.reply := rfl
@[simp] theorem State.endField_freeCount : (s.endField).freeCount = s.freeCount := rfl

/-! `State.endSizeUpdate` -/

@[simp] theorem State.endSizeUpdate_decLive (new : Nat) : (s.endSizeUpdate new).decLive = s.decLive := rfl
@[simp] theorem State.endSizeUpdate_table (new : Nat) : (s.endSizeUpdate new).table = s.table.resize new := rfl
@[simp] theorem State.endSizeUpdate_protoMax (new : Nat) : (s.endSizeUpdate new).protoMax = s.protoMax := rfl
@[simp] theorem State.endSizeUpdate_intValueMax (new : Nat) : (s.endSizeUpdate new).intValueMax = s.intValueMax := rfl
@[simp] theorem State.endSizeUpdate_intEncLenMax (new : Nat) : (s.endSizeUpdate new).intEncLenMax = s.intEncLenMax := rfl
@[simp] theorem State.endSizeUpdate_strLenMax (new : Nat) : (s.endSizeUpdate new).strLenMax = s.strLenMax := rfl
@[simp] theorem State.endSizeUpdate_phase (new : Nat) : (s.endSizeUpdate new).phase = s.phase := rfl
@[simp] theorem State.endSizeUpdate_pos (new : Nat) : (s.endSizeUpdate new).pos = s.pos := rfl
@[simp] theorem State.endSizeUpdate_err (new : Nat) : (s.endSizeUpdate new).err = s.err := rfl
@[simp] theorem State.endSizeUpdate_out (new : Nat) : (s.endSizeUpdate new).out = s.out := rfl
@[simp] theorem State.endSizeUpdate_encLive (new : Nat) : (s.endSizeUpdate new).encLive = s.encLive := rfl
@[simp] theorem State.endSizeUpdate_eTable (new : Nat) : (s.endSizeUpdate new).eTable = s.eTable := rfl
@[simp] theorem State.endSizeUpdate_pending (new : Nat) : (s.endSizeUpdate new).pending = s.pending := rfl
@[simp] theorem State.endSizeUpdate_activity (new : Nat) : (s.endSizeUpdate new).activity = s.activity := rfl
@[simp] theorem State.endSizeUpdate_block (new : Nat) : (s.endSizeUpdate new).block = s.block := rfl
@[simp] theorem State.endSizeUpdate_len (new : Nat) : (s.endSizeUpdate new).len = s.len := rfl
@[simp] theorem State.endSizeUpdate_commands (new : Nat) : (s.endSizeUpdate new).commands = s.commands := rfl
@[simp] theorem State.endSizeUpdate_reply (new : Nat) : (s.endSizeUpdate new).reply = s.reply := rfl
@[simp] theorem State.endSizeUpdate_freeCount (new : Nat) : (s.endSizeUpdate new).freeCount = s.freeCount := rfl

/-! `State.answer` -/

@[simp] theorem State.answer_decLive (r : Reply) : (s.answer r).decLive = s.decLive := rfl
@[simp] theorem State.answer_table (r : Reply) : (s.answer r).table = s.table := rfl
@[simp] theorem State.answer_protoMax (r : Reply) : (s.answer r).protoMax = s.protoMax := rfl
@[simp] theorem State.answer_intValueMax (r : Reply) : (s.answer r).intValueMax = s.intValueMax := rfl
@[simp] theorem State.answer_intEncLenMax (r : Reply) : (s.answer r).intEncLenMax = s.intEncLenMax := rfl
@[simp] theorem State.answer_strLenMax (r : Reply) : (s.answer r).strLenMax = s.strLenMax := rfl
@[simp] theorem State.answer_phase (r : Reply) : (s.answer r).phase = s.phase := rfl
@[simp] theorem State.answer_pos (r : Reply) : (s.answer r).pos = s.pos := rfl
@[simp] theorem State.answer_err (r : Reply) : (s.answer r).err = s.err := rfl
@[simp] theorem State.answer_out (r : Reply) : (s.answer r).out = s.out := rfl
@[simp] theorem State.answer_encLive (r : Reply) : (s.answer r).encLive = s.encLive := rfl
@[simp] theorem State.answer_eTable (r : Reply) : (s.answer r).eTable = s.eTable := rfl
@[simp] theorem State.answer_pending (r : Reply) : (s.answer r).pending = s.pending := rfl
@[simp] theorem State.answer_activity (r : Reply) : (s.answer r).activity = .idle := rfl
@[simp] theorem State.answer_block (r : Reply) : (s.answer r).block = s.block := rfl
@[simp] theorem State.answer_len (r : Reply) : (s.answer r).len = s.len := rfl
@[simp] theorem State.answer_commands (r : Reply) : (s.answer r).commands = s.commands := rfl
@[simp] theorem State.answer_reply (r : Reply) : (s.answer r).reply = some r := rfl
@[simp] theorem State.answer_freeCount (r : Reply) : (s.answer r).freeCount = s.freeCount := rfl

/-! `State.primitiveError` -/

@[simp] theorem State.primitiveError_decLive (e : ErrCode) : (s.primitiveError e).decLive = s.decLive := rfl
@[simp] theorem State.primitiveError_table (e : ErrCode) : (s.primitiveError e).table = s.table := rfl
@[simp] theorem State.primitiveError_protoMax (e : ErrCode) : (s.primitiveError e).protoMax = s.protoMax := rfl
@[simp] theorem State.primitiveError_intValueMax (e : ErrCode) : (s.primitiveError e).intValueMax = s.intValueMax := rfl
@[simp] theorem State.primitiveError_intEncLenMax (e : ErrCode) : (s.primitiveError e).intEncLenMax = s.intEncLenMax := rfl
@[simp] theorem State.primitiveError_strLenMax (e : ErrCode) : (s.primitiveError e).strLenMax = s.strLenMax := rfl
@[simp] theorem State.primitiveError_phase (e : ErrCode) : (s.primitiveError e).phase = s.phase := rfl
@[simp] theorem State.primitiveError_pos (e : ErrCode) : (s.primitiveError e).pos = s.pos := rfl
@[simp] theorem State.primitiveError_err (e : ErrCode) : (s.primitiveError e).err = s.err := rfl
@[simp] theorem State.primitiveError_out (e : ErrCode) : (s.primitiveError e).out = s.out := rfl
@[simp] theorem State.primitiveError_encLive (e : ErrCode) : (s.primitiveError e).encLive = s.encLive := rfl
@[simp] theorem State.primitiveError_eTable (e : ErrCode) : (s.primitiveError e).eTable = s.eTable := rfl
@[simp] theorem State.primitiveError_pending (e : ErrCode) : (s.primitiveError e).pending = s.pending := rfl
@[simp] theorem State.primitiveError_activity (e : ErrCode) : (s.primitiveError e).activity = .idle := rfl
@[simp] theorem State.primitiveError_block (e : ErrCode) : (s.primitiveError e).block = s.block := rfl
@[simp] theorem State.primitiveError_len (e : ErrCode) : (s.primitiveError e).len = s.len := rfl
@[simp] theorem State.primitiveError_commands (e : ErrCode) : (s.primitiveError e).commands = s.commands := rfl
@[simp] theorem State.primitiveError_reply (e : ErrCode) : (s.primitiveError e).reply = some (.error e) := rfl
@[simp] theorem State.primitiveError_freeCount (e : ErrCode) : (s.primitiveError e).freeCount = s.freeCount := rfl

/-! `State.raise` -/

@[simp] theorem State.raise_decLive (e : ErrCode) : (s.raise e).decLive = s.decLive := rfl
@[simp] theorem State.raise_table (e : ErrCode) : (s.raise e).table = ⟨Config.freeEntries s.freeCount, (Config.freeCurSize s.freeCount).toNat,
      (Config.freeMaxSize s.freeCount).toNat⟩ := rfl
@[simp] theorem State.raise_protoMax (e : ErrCode) : (s.raise e).protoMax = s.protoMax := rfl
@[simp] theorem State.raise_intValueMax (e : ErrCode) : (s.raise e).intValueMax = s.intValueMax := rfl
@[simp] theorem State.raise_intEncLenMax (e : ErrCode) : (s.raise e).intEncLenMax = s.intEncLenMax := rfl
@[simp] theorem State.raise_strLenMax (e : ErrCode) : (s.raise e).strLenMax = s.strLenMax := rfl
@[simp] theorem State.raise_phase (e : ErrCode) : (s.raise e).phase = Config.freePhase s.freeCount := rfl
@[simp] theorem State.raise_pos (e : ErrCode) : (s.raise e).pos = (Config.freePos s.freeCount).toNat := rfl
@[simp] theorem State.raise_err (e : ErrCode) : (s.raise e).err = e := rfl
@[simp] theorem State.raise_out (e : ErrCode) : (s.raise e).out = Config.freeOut s.freeCount := rfl
@[simp] theorem State.raise_encLive (e : ErrCode) : (s.raise e).encLive = s.encLive := rfl
@[simp] theorem State.raise_eTable (e : ErrCode) : (s.raise e).eTable = s.eTable := rfl
@[simp] theorem State.raise_pending (e : ErrCode) : (s.raise e).pending = s.pending := rfl
@[simp] theorem State.raise_activity (e : ErrCode) : (s.raise e).activity = .idle := rfl
@[simp] theorem State.raise_block (e : ErrCode) : (s.raise e).block = s.block := rfl
@[simp] theorem State.raise_len (e : ErrCode) : (s.raise e).len = s.len := rfl
@[simp] theorem State.raise_commands (e : ErrCode) : (s.raise e).commands = s.commands := rfl
@[simp] theorem State.raise_reply (e : ErrCode) : (s.raise e).reply = some (.error e) := rfl
@[simp] theorem State.raise_freeCount (e : ErrCode) : (s.raise e).freeCount = s.freeCount + 1 := rfl

/-! `State.initDecoder` -/

@[simp] theorem State.initDecoder_decLive (max : Nat) : (s.initDecoder max).decLive = true := rfl
@[simp] theorem State.initDecoder_table (max : Nat) : (s.initDecoder max).table = ⟨[], 0, max⟩ := rfl
@[simp] theorem State.initDecoder_protoMax (max : Nat) : (s.initDecoder max).protoMax = max := rfl
@[simp] theorem State.initDecoder_intValueMax (max : Nat) : (s.initDecoder max).intValueMax = 2 ^ 32 - 1 := rfl
@[simp] theorem State.initDecoder_intEncLenMax (max : Nat) : (s.initDecoder max).intEncLenMax = 6 := rfl
@[simp] theorem State.initDecoder_strLenMax (max : Nat) : (s.initDecoder max).strLenMax = 65536 := rfl
@[simp] theorem State.initDecoder_phase (max : Nat) : (s.initDecoder max).phase = .awaitingSizeUpdates := rfl
@[simp] theorem State.initDecoder_pos (max : Nat) : (s.initDecoder max).pos = 0 := rfl
@[simp] theorem State.initDecoder_err (max : Nat) : (s.initDecoder max).err = .ok := rfl
@[simp] theorem State.initDecoder_out (max : Nat) : (s.initDecoder max).out = [] := rfl
@[simp] theorem State.initDecoder_encLive (max : Nat) : (s.initDecoder max).encLive = s.encLive := rfl
@[simp] theorem State.initDecoder_eTable (max : Nat) : (s.initDecoder max).eTable = s.eTable := rfl
@[simp] theorem State.initDecoder_pending (max : Nat) : (s.initDecoder max).pending = s.pending := rfl
@[simp] theorem State.initDecoder_activity (max : Nat) : (s.initDecoder max).activity = s.activity := rfl
@[simp] theorem State.initDecoder_block (max : Nat) : (s.initDecoder max).block = s.block := rfl
@[simp] theorem State.initDecoder_len (max : Nat) : (s.initDecoder max).len = s.len := rfl
@[simp] theorem State.initDecoder_commands (max : Nat) : (s.initDecoder max).commands = s.commands := rfl
@[simp] theorem State.initDecoder_reply (max : Nat) : (s.initDecoder max).reply = s.reply := rfl
@[simp] theorem State.initDecoder_freeCount (max : Nat) : (s.initDecoder max).freeCount = s.freeCount := rfl

/-! `State.initEncoder` -/

@[simp] theorem State.initEncoder_decLive (max : Nat) : (s.initEncoder max).decLive = s.decLive := rfl
@[simp] theorem State.initEncoder_table (max : Nat) : (s.initEncoder max).table = s.table := rfl
@[simp] theorem State.initEncoder_protoMax (max : Nat) : (s.initEncoder max).protoMax = s.protoMax := rfl
@[simp] theorem State.initEncoder_intValueMax (max : Nat) : (s.initEncoder max).intValueMax = s.intValueMax := rfl
@[simp] theorem State.initEncoder_intEncLenMax (max : Nat) : (s.initEncoder max).intEncLenMax = s.intEncLenMax := rfl
@[simp] theorem State.initEncoder_strLenMax (max : Nat) : (s.initEncoder max).strLenMax = s.strLenMax := rfl
@[simp] theorem State.initEncoder_phase (max : Nat) : (s.initEncoder max).phase = s.phase := rfl
@[simp] theorem State.initEncoder_pos (max : Nat) : (s.initEncoder max).pos = s.pos := rfl
@[simp] theorem State.initEncoder_err (max : Nat) : (s.initEncoder max).err = s.err := rfl
@[simp] theorem State.initEncoder_out (max : Nat) : (s.initEncoder max).out = s.out := rfl
@[simp] theorem State.initEncoder_encLive (max : Nat) : (s.initEncoder max).encLive = true := rfl
@[simp] theorem State.initEncoder_eTable (max : Nat) : (s.initEncoder max).eTable = ⟨[], 0, max⟩ := rfl
@[simp] theorem State.initEncoder_pending (max : Nat) : (s.initEncoder max).pending = false := rfl
@[simp] theorem State.initEncoder_activity (max : Nat) : (s.initEncoder max).activity = s.activity := rfl
@[simp] theorem State.initEncoder_block (max : Nat) : (s.initEncoder max).block = s.block := rfl
@[simp] theorem State.initEncoder_len (max : Nat) : (s.initEncoder max).len = s.len := rfl
@[simp] theorem State.initEncoder_commands (max : Nat) : (s.initEncoder max).commands = s.commands := rfl
@[simp] theorem State.initEncoder_reply (max : Nat) : (s.initEncoder max).reply = s.reply := rfl
@[simp] theorem State.initEncoder_freeCount (max : Nat) : (s.initEncoder max).freeCount = s.freeCount := rfl

/-! `State.startRun` -/

@[simp] theorem State.startRun_decLive (bs : Octets) : (s.startRun bs).decLive = s.decLive := rfl
@[simp] theorem State.startRun_table (bs : Octets) : (s.startRun bs).table = s.table := rfl
@[simp] theorem State.startRun_protoMax (bs : Octets) : (s.startRun bs).protoMax = s.protoMax := rfl
@[simp] theorem State.startRun_intValueMax (bs : Octets) : (s.startRun bs).intValueMax = s.intValueMax := rfl
@[simp] theorem State.startRun_intEncLenMax (bs : Octets) : (s.startRun bs).intEncLenMax = s.intEncLenMax := rfl
@[simp] theorem State.startRun_strLenMax (bs : Octets) : (s.startRun bs).strLenMax = s.strLenMax := rfl
@[simp] theorem State.startRun_phase (bs : Octets) : (s.startRun bs).phase = .awaitingSizeUpdates := rfl
@[simp] theorem State.startRun_pos (bs : Octets) : (s.startRun bs).pos = 0 := rfl
@[simp] theorem State.startRun_err (bs : Octets) : (s.startRun bs).err = s.err := rfl
@[simp] theorem State.startRun_out (bs : Octets) : (s.startRun bs).out = [] := rfl
@[simp] theorem State.startRun_encLive (bs : Octets) : (s.startRun bs).encLive = s.encLive := rfl
@[simp] theorem State.startRun_eTable (bs : Octets) : (s.startRun bs).eTable = s.eTable := rfl
@[simp] theorem State.startRun_pending (bs : Octets) : (s.startRun bs).pending = s.pending := rfl
@[simp] theorem State.startRun_activity (bs : Octets) : (s.startRun bs).activity = .run := rfl
@[simp] theorem State.startRun_block (bs : Octets) : (s.startRun bs).block = Memory.ofBlock bs := rfl
@[simp] theorem State.startRun_len (bs : Octets) : (s.startRun bs).len = bs.length := rfl
@[simp] theorem State.startRun_commands (bs : Octets) : (s.startRun bs).commands = s.commands := rfl
@[simp] theorem State.startRun_reply (bs : Octets) : (s.startRun bs).reply = s.reply := rfl
@[simp] theorem State.startRun_freeCount (bs : Octets) : (s.startRun bs).freeCount = s.freeCount := rfl

/-! `State.afterTurn` -/

@[simp] theorem State.afterTurn_more (r : HuffRegs) : s.afterTurn (.more r) = { s with activity := .huffman r } := rfl
@[simp] theorem State.afterTurn_finished (text : Octets) :
    s.afterTurn (.finished text) = s.answer (.octets text) := rfl
@[simp] theorem State.afterTurn_failed :
    s.afterTurn .failed = s.primitiveError .huffmanDecodeFailure := rfl

/-! The registers of a unit in progress, and an error, which forgets where the cursor was -/

theorem State.stringOffset_eq {s : State} {offset : Nat} (h : s.activity = .string offset) :
    s.stringOffset = offset := by simp [State.stringOffset, h]
theorem State.huffRegs_eq {s : State} {r : HuffRegs} (h : s.activity = .huffman r) : s.huffRegs = r := by
  simp [State.huffRegs, h]
@[simp] theorem State.raise_advance (n : Nat) (e : ErrCode) : (s.advance n).raise e = s.raise e := rfl

end Sys2Proof.Machine
end

