-- ==== Sys2Proof/Laws/Step.lean ====
section
/-!
SUPPORT. One inversion lemma per shared operation of the step: what a representation can do, what a string or a code
can do, what the machine can fetch.
-/

namespace Sys2Proof.Machine

/-- All that a literal representation can do: raise the error of its name, or of its value, or emit its header and end
(45_dispatch R239). -/
theorem literalBody_cases (insert sensitive : Bool) (name : NameRef) (value : StrLit) (s : State) :
    (∃ e, resolveName s.table name = .error e ∧ literalBody insert sensitive name value s = .next (s.raise e)) ∨
    (∃ n e, resolveName s.table name = .ok n ∧ literalText value = .error e ∧
      literalBody insert sensitive name value s = .next (s.raise e)) ∨
    (∃ n v, resolveName s.table name = .ok n ∧ literalText value = .ok v ∧
      literalBody insert sensitive name value s =
        .next (if insert then (s.emit ⟨n, v, sensitive⟩).insert ⟨n, v⟩ else s.emit ⟨n, v, sensitive⟩).endField) := by
  unfold literalBody
  cases hn : resolveName s.table name with
  | error e => exact .inl ⟨e, rfl, rfl⟩
  | ok n =>
    cases hv : literalText value with
    | error e => exact .inr (.inl ⟨n, e, rfl, rfl, rfl⟩)
    | ok v => exact .inr (.inr ⟨n, v, rfl, rfl, rfl⟩)

/-- All that `INDEXED` can do (45_dispatch R238). -/
theorem execIndexed_cases (index : Nat) (s : State) :
    (index = 0 ∧ execIndexed index s = .next (s.raise .invalidIndex)) ∨
    (∃ e, index ≠ 0 ∧ s.table.get index = .error e ∧ execIndexed index s = .next (s.raise e)) ∨
    (∃ entry, index ≠ 0 ∧ s.table.get index = .ok entry ∧
      execIndexed index s = .next (s.emit ⟨entry.name, entry.value, false⟩).endField) := by
  unfold execIndexed
  by_cases h : index = 0
  · exact .inl ⟨h, if_pos h⟩
  · rw [if_neg h]
    cases hg : s.table.get index with
    | error e => exact .inr (.inl ⟨e, h, rfl, rfl⟩)
    | ok entry => exact .inr (.inr ⟨entry, h, rfl, rfl⟩)

/-- All that `SIZEUPD` can do (45_dispatch R244). -/
theorem execSizeupd_cases (new : Nat) (s : State) :
    (s.phase ≠ .awaitingSizeUpdates ∧ execSizeupd new s = .next (s.raise .sizeUpdateOutOfOrder)) ∨
    (s.phase = .awaitingSizeUpdates ∧ s.protoMax < new ∧ execSizeupd new s = .next (s.raise .sizeUpdateTooLarge)) ∨
    (s.phase = .awaitingSizeUpdates ∧ new ≤ s.protoMax ∧ execSizeupd new s = .next (s.endSizeUpdate new)) := by
  unfold execSizeupd sizeUpdateInOrder
  cases hp : s.phase <;> by_cases h : s.protoMax < new <;> simp [h]; omega

/-- All that a string literal on its own can do (41_string R151). -/
theorem stringBody_cases (lit : StrLit) (s : State) :
    (∃ e, literalText lit = .error e ∧ stringBody lit s = .next (s.primitiveError e)) ∨
    (∃ text, literalText lit = .ok text ∧ stringBody lit s = .next (s.answer (.string s.stringOffset text))) := by
  unfold stringBody
  cases h : literalText lit with
  | error e => exact .inl ⟨e, rfl, rfl⟩
  | ok text => exact .inr ⟨text, rfl, rfl⟩

/-- A Huffman row, executed while a `HUFF.DEC` is in progress, is one turn of its loop from the leaf on (42_huffman R176
lines 10 to 14). -/
theorem codeBody_eq {s : State} {r : HuffRegs} (sym : Nat) (h : s.activity = .huffman r) :
    codeBody sym s = .next (s.afterTurn (huffLeaf sym (huffCodeOf sym).len r)) := by
  rw [codeBody, State.huffRegs_eq h]

/-- All that the HUFF unit can fetch (42_huffman R176): the end of the loop, the row the walk reaches, or, where the
walk reaches nothing, what line 12 says. -/
theorem fetchCode_cases (s : State) (r : HuffRegs) :
    (8 * r.payload.length - r.bitpos < 5 ∧ fetchCode s r = .settled (s.answer (.octets r.text))) ∨
    (∃ i, 5 ≤ 8 * r.payload.length - r.bitpos ∧ decodeCode r.payload r.bitpos = .ok i ∧ fetchCode s r = .run i s) ∨
    (∃ e, 5 ≤ 8 * r.payload.length - r.bitpos ∧ decodeCode r.payload r.bitpos = .error e ∧
      fetchCode s r = .settled (s.afterTurn (huffUnmatched r))) := by
  by_cases h : 8 * r.payload.length - r.bitpos < 5
  · exact .inl ⟨h, by simp [fetchCode, huffAtEnd, bitsAvailable, h]⟩
  · have h5 : 5 ≤ 8 * r.payload.length - r.bitpos := by omega
    cases hd : decodeCode r.payload r.bitpos with
    | ok i => exact .inr (.inl ⟨i, h5, rfl, by simp [fetchCode, huffAtEnd, bitsAvailable, h, hd]⟩)
    | error e => exact .inr (.inr ⟨e, h5, rfl, by simp [fetchCode, huffAtEnd, bitsAvailable, h, hd]⟩)

/-- All that a run can fetch (45_dispatch R236, R237): its end, the error of octets that do not decode, or a
representation and the offset past it, which lies inside the block. -/
theorem fetchRep_cases (s : State) :
    (s.len ≤ s.pos ∧ fetchRep s = .settled (finishRun s)) ∨
    (∃ r, s.pos < s.len ∧ decodeRep s.limits (s.octetsFrom s.pos) = .error r ∧
      fetchRep s = .settled (s.raise (rejectError s.phase s.table r))) ∨
    (∃ i n, s.pos < s.len ∧ decodeRep s.limits (s.octetsFrom s.pos) = .ok (i, n) ∧ 1 ≤ n ∧ s.pos + n ≤ s.len ∧
      fetchRep s = .run i (s.advance n)) := by
  unfold fetchRep
  by_cases h : s.pos < s.len
  · rw [if_pos h]
    cases hd : decodeRep s.limits (s.octetsFrom s.pos) with
    | error r => exact .inr (.inl ⟨r, h, rfl, rfl⟩)
    | ok x =>
      obtain ⟨i, n⟩ := x
      have := decodeRep_count hd
      rw [State.octetsFrom_length] at this
      exact .inr (.inr ⟨i, n, h, rfl, this.1, by omega, rfl⟩)
  · rw [if_neg h]
    exact .inl ⟨by omega, rfl⟩

end Sys2Proof.Machine
end

