-- ==== Sys2Proof/Laws/Table.lean ====
section
/-!
SUPPORT. The dynamic table's operations: what the eviction loop leaves, said once, and what an insert and a resize do
to the fields.
-/

namespace Sys2Proof.Machine

theorem sizeSum_append (l r : List Entry) : sizeSum (l ++ r) = sizeSum l + sizeSum r := by
  simp [sizeSum]

theorem sizeSum_cons (e : Entry) (l : List Entry) : sizeSum (e :: l) = entrySize e + sizeSum l := by
  simp [sizeSum]

/-- Every entry is accounted at least 32 octets (10_state R21). -/
theorem sizeSum_ge (l : List Entry) : 32 * l.length ≤ sizeSum l := by
  induction l with
  | nil => simp [sizeSum]
  | cons e l ih => rw [sizeSum_cons, List.length_cons, entrySize]; simp only [Config.entryOverhead]; omega

@[simp] theorem Table.evictOldest_maxSize (t : Table) : t.evictOldest.maxSize = t.maxSize := by
  unfold Table.evictOldest; split <;> rfl

theorem Table.evictOldest_entries (t : Table) : t.evictOldest.entries = t.entries.dropLast := by
  unfold Table.evictOldest; split
  · rename_i h; rw [List.getLast?_eq_none_iff.1 h]; rfl
  · rfl

theorem Table.evictOldest_curSize {t : Table} (h : t.curSize = sizeSum t.entries) :
    t.evictOldest.curSize = sizeSum t.evictOldest.entries := by
  unfold Table.evictOldest; split
  · exact h
  · rename_i e he
    have := sizeSum_append t.entries.dropLast [e]
    rw [List.dropLast_append_getLast? e he] at this
    simp only [h, this, sizeSum_cons]
    simp [sizeSum]

@[simp] theorem Table.evictWhile_maxSize (p : Nat → Bool) (bound : Nat) (t : Table) :
    (Table.evictWhile p bound t).maxSize = t.maxSize := by
  induction bound generalizing t with
  | zero => rfl
  | succ n ih =>
    simp only [Table.evictWhile]; split
    · rfl
    · split
      · rw [ih, Table.evictOldest_maxSize]
      · rfl

/-- All the eviction loop can do, on a table whose size register is right: it keeps the `k` newest entries, with their
size; the loop has ended; and every longer rest of the table was too large. -/
theorem Table.evictWhile_spec (p : Nat → Bool) (bound : Nat) (t : Table) (hsize : t.curSize = sizeSum t.entries)
    (hbound : t.entries.length ≤ bound) :
    ∃ k ≤ t.entries.length, (Table.evictWhile p bound t).entries = t.entries.take k ∧
      (Table.evictWhile p bound t).curSize = sizeSum (t.entries.take k) ∧
      (k = 0 ∨ p (sizeSum (t.entries.take k)) = false) ∧
      ∀ j, k < j → j ≤ t.entries.length → p (sizeSum (t.entries.take j)) = true := by
  induction bound generalizing t with
  | zero =>
    have h0 : t.entries = [] := List.length_eq_zero_iff.1 (by omega)
    exact ⟨0, by omega, by simp [Table.evictWhile, h0], by simp [Table.evictWhile, hsize, h0], .inl rfl,
      fun j h1 h2 => by simp [h0] at h2; omega⟩
  | succ n ih =>
    simp only [Table.evictWhile]
    split
    · rename_i h; rw [List.isEmpty_iff] at h
      exact ⟨0, by omega, by simp [h], by simp [hsize, h], .inl rfl, fun j h1 h2 => by simp [h] at h2; omega⟩
    · rename_i hne
      rw [List.isEmpty_iff] at hne
      have hpos := List.length_pos_iff.2 hne
      split
      · rename_i hp
        have hlen : t.evictOldest.entries.length = t.entries.length - 1 := by
          rw [Table.evictOldest_entries, List.length_dropLast]
        have htake : ∀ j, j ≤ t.entries.length - 1 → t.evictOldest.entries.take j = t.entries.take j := by
          intro j hj
          rw [Table.evictOldest_entries, List.dropLast_eq_take, List.take_take, min_eq_left hj]
        obtain ⟨k, hk, h1, h2, h3, h4⟩ := ih t.evictOldest (Table.evictOldest_curSize hsize) (by omega)
        rw [htake k (by omega)] at h1 h2 h3
        refine ⟨k, by omega, h1, h2, h3, fun j hj1 hj2 => ?_⟩
        rcases Nat.lt_or_ge (t.entries.length - 1) j with hj | hj
        · rw [List.take_of_length_le (by omega), ← hsize]; exact hp
        · rw [← htake j hj]; exact h4 j hj1 (by omega)
      · rename_i hp
        exact ⟨t.entries.length, le_rfl, by simp, by simp [hsize], .inr (by simpa [hsize] using hp),
          fun j h1 h2 => by omega⟩

@[simp] theorem Table.add_maxSize (t : Table) (e : Entry) : (t.add e).maxSize = t.maxSize := by
  unfold Table.add; dsimp only; split <;> simp

@[simp] theorem Table.resize_maxSize (t : Table) (new : Nat) : (t.resize new).maxSize = new := by
  simp [Table.resize]

end Sys2Proof.Machine
end

