-- ==== Sys2Proof/Tests/Slice0.lean ====
section
/-!
SUPPORT. The model's own tests: ill-formed terms that the check refuses; words written out from the spec's encodings,
one at least for every row of the opcode table; single steps on small states, their results taken from
95_test_vectors; and, for every statement that has hypotheses, a witness that meets them.
-/

namespace Sys2Proof.Tests

set_option Elab.async false

open Sys2Proof Sys2Proof.Machine

/-! ### Helpers -/

/-- The state after a step (the state itself where the step is refused). -/
def stateOf (s : State) : Host.Outcome State Fault Refusal → State
  | .next t => t
  | .refused _ => s

/-- The state after one step. -/
def after (s : State) : State := stateOf s (step s)

/-- The outcome is a next state. -/
def isNext : Host.Outcome State Fault Refusal → Bool
  | .next _ => true
  | .refused _ => false

theorem next_of_isNext {o : Host.Outcome State Fault Refusal} (s : State) (h : isNext o = true) :
    o = .next (stateOf s o) := by
  cases o with
  | next t => rfl
  | fault r => cases r
  | refused r => cases h

/-- A fresh decoder context at the start of a run over the given octets. -/
def runOf (values : List Nat) : State := State.reset.startRun (octets values)

/-- The STR unit at the given octets. -/
def stringAt (values : List Nat) : State := placeOctets State.reset .string (octets values)

/-- The HUFF unit at a bit position of the given payload. -/
def codeAt (values : List Nat) (bitpos : Nat) : State :=
  { State.reset with activity := .huffman ⟨octets values, bitpos, []⟩ }

/-- The idle block with one command waiting. -/
def asked (c : Command) : State := { State.reset with commands := [c] }

/-- The context in which an error has been raised, with one command waiting. -/
def askedAfterError (c : Command) : State := { asked c with err := .truncated }

/-- The octet strings "a" and "b". -/
def a : Octets := [0x61]
def b : Octets := [0x62]

/-- The table that holds ("a", "b") alone, of size 34. -/
def tableAB : Table := ⟨[⟨a, b⟩], 34, 4096⟩

/-- The payload of a string literal that is longer than 64 bits can count. -/
def tooLong : StrLit := ⟨false, List.replicate (2 ^ 64) 0⟩

/-- The code words of a group decode to their rows. -/
def codesOk (rows : List (List Nat × Instr)) : Bool :=
  rows.all fun r =>
    match decodeCode (octets r.1) 0 with
    | .ok i => i == r.2
    | .error _ => false

/-! ### Well-formedness: one ill-formed term for each check -/

theorem test_wf_refuses_wide_index : (Instr.indexed (2 ^ 64)).wf = false := by decide
theorem test_wf_refuses_wide_size : (Instr.sizeupd (2 ^ 64)).wf = false := by decide
theorem test_wf_refuses_name_index_zero : (Instr.litinc (.byIndex 0) ⟨false, []⟩).wf = false := by decide
theorem test_wf_refuses_wide_name_index : (Instr.litnoidx (.byIndex (2 ^ 64)) ⟨false, []⟩).wf = false := by decide

theorem tooLong_not_wf : tooLong.wf = false := by
  unfold StrLit.wf tooLong
  rw [List.length_replicate]
  decide

theorem test_wf_refuses_long_name : (Instr.litnever (.literal tooLong) ⟨false, []⟩).wf = false := by
  simp [Instr.wf, Instr.form, NameRef.wf, tooLong_not_wf]

theorem test_wf_refuses_long_value : (Instr.litinc (.byIndex 1) tooLong).wf = false := by
  simp [Instr.wf, Instr.form, tooLong_not_wf]

theorem test_wf_refuses_long_string : (Instr.strRaw tooLong.payload).wf = false := by
  exact tooLong_not_wf

theorem test_wf_accepts_index_zero : (Instr.indexed 0).wf = true := by decide

/-! ### Decoding: words written out from the encodings -/

/-- 30_encoding R91, R99: type bit 1, index 2 in the 7-bit prefix; and 127 = 1111111 + 0. -/
theorem test_decode_indexed :
    decodeRep resetLimits [0x82] = .ok (.indexed 2, 1) ∧
      decodeRep resetLimits [0xFF, 0x00] = .ok (.indexed 127, 2) := by
  decide +kernel

/-- Type bits 01: a new name, and name 63 = 111111 + 0 (95_test_vectors D-REP, P1). -/
theorem test_decode_litinc :
    decodeRep resetLimits [0x40, 0x01, 0x61, 0x01, 0x62] = .ok (.litinc (.literal ⟨false, a⟩) ⟨false, b⟩, 5) ∧
      decodeRep resetLimits [0x7F, 0x00, 0x01, 0x62] = .ok (.litinc (.byIndex 63) ⟨false, b⟩, 4) := by
  decide +kernel

/-- Type bits 001: 0, and 4096 = 31 + 97 + 31 * 128 (D-REP). -/
theorem test_decode_sizeupd :
    decodeRep resetLimits [0x20] = .ok (.sizeupd 0, 1) ∧
      decodeRep resetLimits [0x3F, 0xE1, 0x1F] = .ok (.sizeupd 4096, 3) := by
  decide +kernel

/-- Type bits 0001: name 32 = 15 + 17 (D-REP). -/
theorem test_decode_litnever :
    decodeRep resetLimits [0x1F, 0x11, 0x01, 0x61] = .ok (.litnever (.byIndex 32) ⟨false, a⟩, 4) := by
  decide +kernel

/-- Type bits 0000: name 4, and a Huffman-coded value of three octets (D-REP). -/
theorem test_decode_litnoidx :
    decodeRep resetLimits [0x04, 0x83, 0x60, 0x6A, 0x47] =
      .ok (.litnoidx (.byIndex 4) ⟨true, [0x60, 0x6A, 0x47]⟩, 5) := by
  decide +kernel

/-- 30_encoding R97: H = 0, and H = 1 (D-STR-DEC). -/
theorem test_decode_strings :
    decodeStr resetLimits [0x03, 0x61, 0x62, 0x63, 0xFF] = .ok (.strRaw [0x61, 0x62, 0x63], 4) ∧
      decodeStr resetLimits [0x82, 0x1C, 0x7F] = .ok (.strHuff [0x1C, 0x7F], 3) := by
  decide +kernel

/-- The octets after a representation are not read; a prefix that is cut off is refused by name (D-REP). -/
theorem test_decode_rejects :
    decodeRep resetLimits [] = .error .noOctet ∧ decodeRep resetLimits [0xFF] = .error (.index .truncated) ∧
      decodeRep resetLimits [0x3F] = .error (.newSize .truncated) ∧
      decodeRep resetLimits [0x00, 0x7F, 0x82, 0xFF, 0x03] = .error (.name .stringLiteralLengthTooLong) ∧
      decodeRep resetLimits [0x41] = .error (.value (.byIndex 1) .truncated) ∧
      decodeStr resetLimits [0x03, 0x61] = .error (.string .truncated) := by
  decide +kernel

/-! Every row of 43_huffman_table R201: the code's bits, padded with one-bits to a whole octet; the row. -/

theorem test_codes_0 : codesOk [
    ([0xFF, 0xC7], .huff0), ([0xFF, 0xFF, 0xB1], .huff1), ([0xFF, 0xFF, 0xFE, 0x2F], .huff2),
    ([0xFF, 0xFF, 0xFE, 0x3F], .huff3), ([0xFF, 0xFF, 0xFE, 0x4F], .huff4), ([0xFF, 0xFF, 0xFE, 0x5F], .huff5),
    ([0xFF, 0xFF, 0xFE, 0x6F], .huff6), ([0xFF, 0xFF, 0xFE, 0x7F], .huff7), ([0xFF, 0xFF, 0xFE, 0x8F], .huff8),
    ([0xFF, 0xFF, 0xEA], .huff9), ([0xFF, 0xFF, 0xFF, 0xF3], .huff10), ([0xFF, 0xFF, 0xFE, 0x9F], .huff11),
    ([0xFF, 0xFF, 0xFE, 0xAF], .huff12), ([0xFF, 0xFF, 0xFF, 0xF7], .huff13), ([0xFF, 0xFF, 0xFE, 0xBF], .huff14),
    ([0xFF, 0xFF, 0xFE, 0xCF], .huff15), ([0xFF, 0xFF, 0xFE, 0xDF], .huff16), ([0xFF, 0xFF, 0xFE, 0xEF], .huff17),
    ([0xFF, 0xFF, 0xFE, 0xFF], .huff18), ([0xFF, 0xFF, 0xFF, 0x0F], .huff19), ([0xFF, 0xFF, 0xFF, 0x1F], .huff20),
    ([0xFF, 0xFF, 0xFF, 0x2F], .huff21), ([0xFF, 0xFF, 0xFF, 0xFB], .huff22), ([0xFF, 0xFF, 0xFF, 0x3F], .huff23),
    ([0xFF, 0xFF, 0xFF, 0x4F], .huff24), ([0xFF, 0xFF, 0xFF, 0x5F], .huff25), ([0xFF, 0xFF, 0xFF, 0x6F], .huff26),
    ([0xFF, 0xFF, 0xFF, 0x7F], .huff27), ([0xFF, 0xFF, 0xFF, 0x8F], .huff28), ([0xFF, 0xFF, 0xFF, 0x9F], .huff29),
    ([0xFF, 0xFF, 0xFF, 0xAF], .huff30), ([0xFF, 0xFF, 0xFF, 0xBF], .huff31)] = true := by
  decide +kernel

theorem test_codes_32 : codesOk [
    ([0x53], .huff32), ([0xFE, 0x3F], .huff33), ([0xFE, 0x7F], .huff34), ([0xFF, 0xAF], .huff35),
    ([0xFF, 0xCF], .huff36), ([0x57], .huff37), ([0xF8], .huff38), ([0xFF, 0x5F], .huff39), ([0xFE, 0xBF], .huff40),
    ([0xFE, 0xFF], .huff41), ([0xF9], .huff42), ([0xFF, 0x7F], .huff43), ([0xFA], .huff44), ([0x5B], .huff45),
    ([0x5F], .huff46), ([0x63], .huff47), ([0x07], .huff48), ([0x0F], .huff49), ([0x17], .huff50), ([0x67], .huff51),
    ([0x6B], .huff52), ([0x6F], .huff53), ([0x73], .huff54), ([0x77], .huff55), ([0x7B], .huff56), ([0x7F], .huff57),
    ([0xB9], .huff58), ([0xFB], .huff59), ([0xFF, 0xF9], .huff60), ([0x83], .huff61), ([0xFF, 0xBF], .huff62),
    ([0xFF, 0x3F], .huff63)] = true := by
  decide +kernel

theorem test_codes_64 : codesOk [
    ([0xFF, 0xD7], .huff64), ([0x87], .huff65), ([0xBB], .huff66), ([0xBD], .huff67), ([0xBF], .huff68),
    ([0xC1], .huff69), ([0xC3], .huff70), ([0xC5], .huff71), ([0xC7], .huff72), ([0xC9], .huff73), ([0xCB], .huff74),
    ([0xCD], .huff75), ([0xCF], .huff76), ([0xD1], .huff77), ([0xD3], .huff78), ([0xD5], .huff79), ([0xD7], .huff80),
    ([0xD9], .huff81), ([0xDB], .huff82), ([0xDD], .huff83), ([0xDF], .huff84), ([0xE1], .huff85), ([0xE3], .huff86),
    ([0xE5], .huff87), ([0xFC], .huff88), ([0xE7], .huff89), ([0xFD], .huff90), ([0xFF, 0xDF], .huff91),
    ([0xFF, 0xFE, 0x1F], .huff92), ([0xFF, 0xE7], .huff93), ([0xFF, 0xF3], .huff94), ([0x8B], .huff95)] = true := by
  decide +kernel

theorem test_codes_96 : codesOk [
    ([0xFF, 0xFB], .huff96), ([0x1F], .huff97), ([0x8F], .huff98), ([0x27], .huff99), ([0x93], .huff100),
    ([0x2F], .huff101), ([0x97], .huff102), ([0x9B], .huff103), ([0x9F], .huff104), ([0x37], .huff105),
    ([0xE9], .huff106), ([0xEB], .huff107), ([0xA3], .huff108), ([0xA7], .huff109), ([0xAB], .huff110),
    ([0x3F], .huff111), ([0xAF], .huff112), ([0xED], .huff113), ([0xB3], .huff114), ([0x47], .huff115),
    ([0x4F], .huff116), ([0xB7], .huff117), ([0xEF], .huff118), ([0xF1], .huff119), ([0xF3], .huff120),
    ([0xF5], .huff121), ([0xF7], .huff122), ([0xFF, 0xFD], .huff123), ([0xFF, 0x9F], .huff124),
    ([0xFF, 0xF7], .huff125), ([0xFF, 0xEF], .huff126), ([0xFF, 0xFF, 0xFF, 0xCF], .huff127)] = true := by
  decide +kernel

theorem test_codes_128 : codesOk [
    ([0xFF, 0xFE, 0x6F], .huff128), ([0xFF, 0xFF, 0x4B], .huff129), ([0xFF, 0xFE, 0x7F], .huff130),
    ([0xFF, 0xFE, 0x8F], .huff131), ([0xFF, 0xFF, 0x4F], .huff132), ([0xFF, 0xFF, 0x53], .huff133),
    ([0xFF, 0xFF, 0x57], .huff134), ([0xFF, 0xFF, 0xB3], .huff135), ([0xFF, 0xFF, 0x5B], .huff136),
    ([0xFF, 0xFF, 0xB5], .huff137), ([0xFF, 0xFF, 0xB7], .huff138), ([0xFF, 0xFF, 0xB9], .huff139),
    ([0xFF, 0xFF, 0xBB], .huff140), ([0xFF, 0xFF, 0xBD], .huff141), ([0xFF, 0xFF, 0xEB], .huff142),
    ([0xFF, 0xFF, 0xBF], .huff143), ([0xFF, 0xFF, 0xEC], .huff144), ([0xFF, 0xFF, 0xED], .huff145),
    ([0xFF, 0xFF, 0x5F], .huff146), ([0xFF, 0xFF, 0xC1], .huff147), ([0xFF, 0xFF, 0xEE], .huff148),
    ([0xFF, 0xFF, 0xC3], .huff149), ([0xFF, 0xFF, 0xC5], .huff150), ([0xFF, 0xFF, 0xC7], .huff151),
    ([0xFF, 0xFF, 0xC9], .huff152), ([0xFF, 0xFE, 0xE7], .huff153), ([0xFF, 0xFF, 0x63], .huff154),
    ([0xFF, 0xFF, 0xCB], .huff155), ([0xFF, 0xFF, 0x67], .huff156), ([0xFF, 0xFF, 0xCD], .huff157),
    ([0xFF, 0xFF, 0xCF], .huff158), ([0xFF, 0xFF, 0xEF], .huff159)] = true := by
  decide +kernel

theorem test_codes_160 : codesOk [
    ([0xFF, 0xFF, 0x6B], .huff160), ([0xFF, 0xFE, 0xEF], .huff161), ([0xFF, 0xFE, 0x9F], .huff162),
    ([0xFF, 0xFF, 0x6F], .huff163), ([0xFF, 0xFF, 0x73], .huff164), ([0xFF, 0xFF, 0xD1], .huff165),
    ([0xFF, 0xFF, 0xD3], .huff166), ([0xFF, 0xFE, 0xF7], .huff167), ([0xFF, 0xFF, 0xD5], .huff168),
    ([0xFF, 0xFF, 0x77], .huff169), ([0xFF, 0xFF, 0x7B], .huff170), ([0xFF, 0xFF, 0xF0], .huff171),
    ([0xFF, 0xFE, 0xFF], .huff172), ([0xFF, 0xFF, 0x7F], .huff173), ([0xFF, 0xFF, 0xD7], .huff174),
    ([0xFF, 0xFF, 0xD9], .huff175), ([0xFF, 0xFF, 0x07], .huff176), ([0xFF, 0xFF, 0x0F], .huff177),
    ([0xFF, 0xFF, 0x83], .huff178), ([0xFF, 0xFF, 0x17], .huff179), ([0xFF, 0xFF, 0xDB], .huff180),
    ([0xFF, 0xFF, 0x87], .huff181), ([0xFF, 0xFF, 0xDD], .huff182), ([0xFF, 0xFF, 0xDF], .huff183),
    ([0xFF, 0xFE, 0xAF], .huff184), ([0xFF, 0xFF, 0x8B], .huff185), ([0xFF, 0xFF, 0x8F], .huff186),
    ([0xFF, 0xFF, 0x93], .huff187), ([0xFF, 0xFF, 0xE1], .huff188), ([0xFF, 0xFF, 0x97], .huff189),
    ([0xFF, 0xFF, 0x9B], .huff190), ([0xFF, 0xFF, 0xE3], .huff191)] = true := by
  decide +kernel

theorem test_codes_192 : codesOk [
    ([0xFF, 0xFF, 0xF8, 0x3F], .huff192), ([0xFF, 0xFF, 0xF8, 0x7F], .huff193), ([0xFF, 0xFE, 0xBF], .huff194),
    ([0xFF, 0xFE, 0x3F], .huff195), ([0xFF, 0xFF, 0x9F], .huff196), ([0xFF, 0xFF, 0xE5], .huff197),
    ([0xFF, 0xFF, 0xA3], .huff198), ([0xFF, 0xFF, 0xF6, 0x7F], .huff199), ([0xFF, 0xFF, 0xF8, 0xBF], .huff200),
    ([0xFF, 0xFF, 0xF8, 0xFF], .huff201), ([0xFF, 0xFF, 0xF9, 0x3F], .huff202), ([0xFF, 0xFF, 0xFB, 0xDF], .huff203),
    ([0xFF, 0xFF, 0xFB, 0xFF], .huff204), ([0xFF, 0xFF, 0xF9, 0x7F], .huff205), ([0xFF, 0xFF, 0xF1], .huff206),
    ([0xFF, 0xFF, 0xF6, 0xFF], .huff207), ([0xFF, 0xFE, 0x5F], .huff208), ([0xFF, 0xFF, 0x1F], .huff209),
    ([0xFF, 0xFF, 0xF9, 0xBF], .huff210), ([0xFF, 0xFF, 0xFC, 0x1F], .huff211), ([0xFF, 0xFF, 0xFC, 0x3F], .huff212),
    ([0xFF, 0xFF, 0xF9, 0xFF], .huff213), ([0xFF, 0xFF, 0xFC, 0x5F], .huff214), ([0xFF, 0xFF, 0xF2], .huff215),
    ([0xFF, 0xFF, 0x27], .huff216), ([0xFF, 0xFF, 0x2F], .huff217), ([0xFF, 0xFF, 0xFA, 0x3F], .huff218),
    ([0xFF, 0xFF, 0xFA, 0x7F], .huff219), ([0xFF, 0xFF, 0xFF, 0xDF], .huff220), ([0xFF, 0xFF, 0xFC, 0x7F], .huff221),
    ([0xFF, 0xFF, 0xFC, 0x9F], .huff222), ([0xFF, 0xFF, 0xFC, 0xBF], .huff223)] = true := by
  decide +kernel

theorem test_codes_224 : codesOk [
    ([0xFF, 0xFE, 0xCF], .huff224), ([0xFF, 0xFF, 0xF3], .huff225), ([0xFF, 0xFE, 0xDF], .huff226),
    ([0xFF, 0xFF, 0x37], .huff227), ([0xFF, 0xFF, 0xA7], .huff228), ([0xFF, 0xFF, 0x3F], .huff229),
    ([0xFF, 0xFF, 0x47], .huff230), ([0xFF, 0xFF, 0xE7], .huff231), ([0xFF, 0xFF, 0xAB], .huff232),
    ([0xFF, 0xFF, 0xAF], .huff233), ([0xFF, 0xFF, 0xF7, 0x7F], .huff234), ([0xFF, 0xFF, 0xF7, 0xFF], .huff235),
    ([0xFF, 0xFF, 0xF4], .huff236), ([0xFF, 0xFF, 0xF5], .huff237), ([0xFF, 0xFF, 0xFA, 0xBF], .huff238),
    ([0xFF, 0xFF, 0xE9], .huff239), ([0xFF, 0xFF, 0xFA, 0xFF], .huff240), ([0xFF, 0xFF, 0xFC, 0xDF], .huff241),
    ([0xFF, 0xFF, 0xFB, 0x3F], .huff242), ([0xFF, 0xFF, 0xFB, 0x7F], .huff243), ([0xFF, 0xFF, 0xFC, 0xFF], .huff244),
    ([0xFF, 0xFF, 0xFD, 0x1F], .huff245), ([0xFF, 0xFF, 0xFD, 0x3F], .huff246), ([0xFF, 0xFF, 0xFD, 0x5F], .huff247),
    ([0xFF, 0xFF, 0xFD, 0x7F], .huff248), ([0xFF, 0xFF, 0xFF, 0xEF], .huff249), ([0xFF, 0xFF, 0xFD, 0x9F], .huff250),
    ([0xFF, 0xFF, 0xFD, 0xBF], .huff251), ([0xFF, 0xFF, 0xFD, 0xDF], .huff252), ([0xFF, 0xFF, 0xFD, 0xFF], .huff253),
    ([0xFF, 0xFF, 0xFE, 0x1F], .huff254), ([0xFF, 0xFF, 0xFB, 0xBF], .huff255)] = true := by
  decide +kernel

/-- `HUFF.EOS`: thirty one-bits lead to an empty slot, and that is a failure (42_huffman R174, D-HUF-DEC). -/
theorem test_code_eos :
    decodeCode [0xFF, 0xFF, 0xFF, 0xFF] 0 = .ok .huffEOS ∧
      (after (codeAt [0xFF, 0xFF, 0xFF, 0xFC] 0)).reply = some (.error .huffmanDecodeFailure) := by
  decide +kernel
/-- The traces of 42_huffman R182 and R175: slot 64 of the root is the leaf of 51; node `FE`, slot 00, of 33; node
`FF FF FF`, slot FC, is empty. -/
theorem test_trie_slots :
    slotAt trieRoot 0x64 = .leaf 51 6 ∧ slotAt trieRoot 0xFE = .child ⟨1, 0xFE⟩ ∧
      slotAt ⟨1, 0xFE⟩ 0x00 = .leaf 33 10 ∧
      slotAt ⟨3, 0xFFFFFF⟩ 0xFC = .empty := by
  decide +kernel

/-! ### Encoding -/

/-- 95_test_vectors D-INT-ENC and D-STR-ENC. -/
theorem test_encode_words :
    encode (.indexed 62) = [0xBE] ∧ encode (.sizeupd 63) = [0x3F, 0x20] ∧
      encode (.litnever (.byIndex 32) ⟨false, a⟩) = [0x1F, 0x11, 0x01, 0x61] ∧
      encode (.strHuff [0x1F]) = [0x81, 0x1F] ∧ encode .huff33 = [0xFE, 0x3F] ∧
      encode .huffEOS = [0xFF, 0xFF, 0xFF, 0xFF] := by
  decide +kernel

/-- D-INT-DEC: the value limit, and the length limit before the end of the octets. -/
theorem test_integer_limits :
    intDec resetLimits [0x1F, 0xE0, 0xFF, 0xFF, 0xFF, 0x0F] 5 = .ok (6, 0, 4294967295) ∧
      intDec resetLimits [0x1F, 0xE1, 0xFF, 0xFF, 0xFF, 0x0F] 5 = .error .integerValueTooLarge ∧
      intDec ⟨4294967295, 1, 0⟩ [0x1F] 5 = .error .integerEncodedLengthTooLong := by
  decide +kernel

/-! ### Words of the opcode table -/

/-- A word of a representation and a word of a code, as the table numbers their bits. -/
theorem test_table_words :
    decodeTableWord 8 0x82 = some (.indexed 2) ∧ decodeTableWord 8 0x20 = some (.sizeupd 0) ∧
      decodeTableWord 16 0x1FF8 = some .huff0 ∧ decodeTableWord 32 0x3FFFFFFF = some .huffEOS := by
  decide +kernel

/-- The next step after reset runs a word placed for it. -/
theorem test_fetch_words :
    (after (State.reset.withFetchWord 8 0x82)).out = [⟨octets [0x3A, 0x6D, 0x65, 0x74, 0x68, 0x6F, 0x64],
        octets [0x47, 0x45, 0x54], false⟩] ∧
      (after (State.reset.withFetchWord 16 0x1FF8)).huffRegs.text = [0] := by
  decide +kernel

/-! ### Single steps -/

/-- `INDEXED`: `BD` reads entry 61, `80` raises InvalidIndex (D-REP). -/
theorem test_step_indexed :
    (after (runOf [0xBD])).out =
        [⟨octets [0x77, 0x77, 0x77, 0x2D, 0x61, 0x75, 0x74, 0x68, 0x65, 0x6E, 0x74, 0x69, 0x63, 0x61, 0x74, 0x65], [],
          false⟩] ∧
      (after (runOf [0x80])).err = .invalidIndex := by
  decide +kernel

/-- `LITINC`: `40 01 61 01 62` emits and inserts (a, b), size 34 (D-REP). -/
theorem test_step_litinc :
    (after (runOf [0x40, 0x01, 0x61, 0x01, 0x62])).out = [⟨a, b, false⟩] ∧
      (after (runOf [0x40, 0x01, 0x61, 0x01, 0x62])).table = tableAB := by
  decide +kernel

/-- `LITINC` takes its name from the very entry its insert evicts (95_test_vectors P1, 70_reset R365). -/
theorem test_step_litinc_reads_before_evicting :
    let t := after { runOf [0x7E, 0x01, 0x61] with table := ⟨[⟨a, b⟩], 34, 40⟩ }
    t.out = [⟨a, a, false⟩] ∧ t.table = ⟨[⟨a, a⟩], 34, 40⟩ := by
  decide +kernel

/-- `SIZEUPD`: `3F E1 1F` sets the cap to 4096; `3F E2 1F` raises (D-REP). -/
theorem test_step_sizeupd :
    (after (runOf [0x20])).table = ⟨[], 0, 0⟩ ∧ (after (runOf [0x3F, 0xE1, 0x1F])).pos = 3 ∧
      (after (runOf [0x3F, 0xE2, 0x1F])).err = .sizeUpdateTooLarge ∧
      (after { runOf [0x3F] with phase := .awaitingField }).err = .sizeUpdateOutOfOrder := by
  decide +kernel

/-- `LITNEVER`: `10 01 61 01 62` emits (a, b, sensitive) and inserts nothing (D-REP). -/
theorem test_step_litnever :
    (after (runOf [0x10, 0x01, 0x61, 0x01, 0x62])).out = [⟨a, b, true⟩] ∧
      (after (runOf [0x10, 0x01, 0x61, 0x01, 0x62])).table.entries = [] := by
  decide +kernel

/-- `LITNOIDX`: `00 01 61 01 62` (D-REP). -/
theorem test_step_litnoidx :
    (after (runOf [0x00, 0x01, 0x61, 0x01, 0x62])).out = [⟨a, b, false⟩] ∧
      (after (runOf [0x00, 0x01, 0x61, 0x01, 0x62])).table.entries = [] := by
  decide +kernel

/-- The errors of a name come before those of a value (60_exceptions R332, D-REP). -/
theorem test_step_error_order :
    (after (runOf [0x7E, 0x85])).err = .invalidIndex ∧
      (after (runOf [0x00, 0x81, 0xFF, 0x01, 0x61])).err = .huffmanDecodeFailure ∧
      (after (runOf [0x40])).err = .truncated := by
  decide +kernel

/-- `STR.RAW` and `STR.HUFF` (D-STR-DEC). -/
theorem test_step_strings :
    (after (stringAt [0x03, 0x61, 0x62, 0x63])).reply = some (.string 4 [0x61, 0x62, 0x63]) ∧
      (after (stringAt [0x82, 0x1C, 0x7F])).reply = some (.string 3 [0x61, 0x62]) ∧
      (after (stringAt [0x81, 0xFF])).reply = some (.error .huffmanDecodeFailure) := by
  decide +kernel

/-- Codes: `64 02` begins with "3" of six bits; a leaf past the end is padding below 8 bits, a failure from 8 on
(D-HUF-DEC rows `1C 7F`, `FF`). -/
theorem test_step_codes :
    (after (codeAt [0x64, 0x02] 0)).activity = .huffman ⟨[0x64, 0x02], 6, [0x33]⟩ ∧
      (after (codeAt [0x1C, 0x7F] 11)).reply = some (.octets []) ∧
      (after (codeAt [0xFF] 0)).reply = some (.error .huffmanDecodeFailure) := by
  decide +kernel

/-- The encoder (D-ENC3). -/
theorem test_step_encoder :
    (after (asked (.encIndexed ⟨a, b, false⟩ false))).reply = some (.octets [0x40, 0x01, 0x61, 0x01, 0x62]) ∧
      (after { asked (.encNoIndex ⟨a, b, false⟩ false) with pending := true, eTable := tableAB }).reply =
        some (.octets [0x3F, 0xE1, 0x1F, 0xBE]) := by
  decide +kernel

/-- A command after an error is refused; `DEC.INIT` is not (46_commands R280). -/
theorem test_step_commands :
    (after (askedAfterError (.decDecode []))).reply = some .refused ∧
      (after (askedAfterError (.decInit 68))).err = .ok ∧ (after (askedAfterError (.decInit 68))).table.maxSize = 68 := by
  decide +kernel

/-! ### Witnesses: states and operands that meet the hypotheses of the statements -/

theorem witness_StepRunsTheDecodedRepresentation :
    let s := runOf [0x82]
    s.activity = .run ∧ s.pos < s.len ∧ decodeRep s.limits (s.octetsFrom s.pos) = .ok (.indexed 2, 1) := by
  decide +kernel

theorem witness_StepRunsTheDecodedStringOrCode :
    let s := stringAt [0x01, 0x61]
    (s.activity = .string 0 ∧ decodeStr s.limits (s.octetsFrom 0) = .ok (.strRaw a, 2)) ∧
      ((codeAt [0x1F] 0).activity = .huffman ⟨[0x1F], 0, []⟩ ∧ 5 ≤ 8 * ([0x1F] : Octets).length - 0 ∧
        decodeCode [0x1F] 0 = .ok .huff97) ∧
      (codeAt [0xF8, 0x07] 11).activity = .huffman ⟨[0xF8, 0x07], 11, []⟩ ∧
        8 * ([0xF8, 0x07] : Octets).length - 11 = 5 ∧ decodeCode [0xF8, 0x07] 11 = .ok .huff111 := by
  decide +kernel

/-- One block for each clause: no index, no name, no size in order and out of order, no value after a name that is
found and after one that is not. -/
theorem witness_UndecodableRepresentationRaises :
    let out := { runOf [0x3F] with phase := .awaitingField }
    ([runOf [0xFF], runOf [0x40], runOf [0x3F], out, runOf [0x41], runOf [0x7E, 0x85]].all fun s =>
      s.activity == .run && decide (s.pos < s.len)) = true ∧
      decodeRep (runOf [0xFF]).limits ((runOf [0xFF]).octetsFrom 0) = .error (.index .truncated) ∧
      decodeRep (runOf [0x40]).limits ((runOf [0x40]).octetsFrom 0) = .error (.name .truncated) ∧
      ((runOf [0x3F]).phase = .awaitingSizeUpdates ∧
        decodeRep (runOf [0x3F]).limits ((runOf [0x3F]).octetsFrom 0) = .error (.newSize .truncated)) ∧
      (out.phase ≠ .awaitingSizeUpdates ∧ decodeRep out.limits (out.octetsFrom 0) = .error (.newSize .truncated)) ∧
      (decodeRep (runOf [0x41]).limits ((runOf [0x41]).octetsFrom 0) = .error (.value (.byIndex 1) .truncated) ∧
        resolveName (runOf [0x41]).table (.byIndex 1) =
          .ok (octets [0x3A, 0x61, 0x75, 0x74, 0x68, 0x6F, 0x72, 0x69, 0x74, 0x79])) ∧
      decodeRep (runOf [0x7E, 0x85]).limits ((runOf [0x7E, 0x85]).octetsFrom 0) =
        .error (.value (.byIndex 62) .truncated) ∧
      resolveName (runOf [0x7E, 0x85]).table (.byIndex 62) = .error .invalidIndex := by
  decide +kernel

theorem witness_IndexedEmitsTheTableEntry :
    let s := { State.reset with table := tableAB }
    s.table.get 1 = .ok ⟨octets [0x3A, 0x61, 0x75, 0x74, 0x68, 0x6F, 0x72, 0x69, 0x74, 0x79], []⟩ ∧
      s.table.get 62 = .ok ⟨a, b⟩ := by
  decide +kernel

theorem witness_IndexedWithoutAnEntryRaisesInvalidIndex :
    (0 = 0 ∨ 61 + State.reset.table.entries.length < 0) ∧ (62 = 0 ∨ 61 + State.reset.table.entries.length < 62) := by
  decide

/-- Also the witness of the same hypotheses in the statements of LITNOIDX and of LITNEVER. -/
theorem witness_LitincEmitsAndInserts :
    resolveName tableAB (.byIndex 62) = .ok a ∧ literalText ⟨false, b⟩ = .ok b ∧
      resolveName tableAB (.literal ⟨true, [0x1F]⟩) = .ok a ∧ literalText ⟨true, [0x1F]⟩ = .ok a := by
  decide +kernel

theorem witness_LitnoidxEmitsWithoutInsert :
    resolveName State.reset.table (.literal ⟨false, a⟩) = .ok a ∧ literalText ⟨false, []⟩ = .ok [] := by
  decide

theorem witness_LitneverEmitsSensitive :
    resolveName State.reset.table (.literal ⟨false, []⟩) = .ok [] ∧ literalText ⟨false, b⟩ = .ok b := by
  decide

theorem witness_LiteralRaisesNameErrorThenValueError :
    resolveName State.reset.table (.byIndex 62) = .error .invalidIndex ∧
      resolveName State.reset.table (.literal ⟨true, [0xFF]⟩) = .error .huffmanDecodeFailure ∧
      resolveName tableAB (.byIndex 62) = .ok a ∧ literalText ⟨true, [0xFF]⟩ = .error .huffmanDecodeFailure := by
  decide +kernel

theorem witness_SizeupdSetsTheCap :
    State.reset.phase = .awaitingSizeUpdates ∧ 0 ≤ State.reset.protoMax ∧
      State.reset.protoMax ≤ State.reset.protoMax := by
  decide

theorem witness_SizeupdOutOfOrderOrTooLargeRaises :
    let s := { State.reset with phase := .awaitingField }
    s.phase ≠ .awaitingSizeUpdates ∧ State.reset.phase = .awaitingSizeUpdates ∧
      State.reset.protoMax < State.reset.protoMax + 1 := by
  decide

/-- Also the witness of the hypothesis of the statement of STR.RAW. -/
theorem witness_StrHuffReturnsItsDecodedPayload :
    (stringAt []).activity = .string 0 ∧ huffDec [0x1F] = .ok a ∧ huffDec [] = .ok [] ∧
      huffDec [0xFF] = .error .huffmanDecodeFailure := by
  decide +kernel

/-- The code of "&" fills the eight bits that are left. -/
theorem witness_HuffCodeEmitsItsSymbol :
    (codeAt [0xF8] 0).activity = .huffman ⟨[0xF8], 0, []⟩ ∧ Instr.huff38.form = .code 38 ∧ 38 ≠ 256 ∧
      (huffCodeOf 38).len = 8 ∧ (huffCodeOf 38).len ≤ 8 * ([0xF8] : Octets).length - 0 := by
  decide +kernel

/-- The ten bits of "!" with seven and with eight bits left. -/
theorem witness_HuffCodePastTheEndIsPaddingOrFailure :
    (codeAt [0xFF] 1).activity = .huffman ⟨[0xFF], 1, []⟩ ∧ (codeAt [0xFE] 0).activity = .huffman ⟨[0xFE], 0, []⟩ ∧
      Instr.huff33.form = .code 33 ∧ 33 ≠ 256 ∧ (huffCodeOf 33).len = 10 ∧
      8 * ([0xFF] : Octets).length - 1 = 7 ∧ 8 * ([0xFE] : Octets).length - 0 = 8 := by
  decide +kernel

/-- Every clause at its boundaries, with one entry in the dynamic table. -/
theorem witness_GetReadsTheJointTable :
    (0 = 0 ∧ 61 + tableAB.entries.length < 63) ∧ (1 ≤ 1 ∧ 1 ≤ 61) ∧ (1 ≤ 61 ∧ 61 ≤ 61) ∧
      62 ≤ 62 ∧ 62 - 62 < tableAB.entries.length := by
  decide

theorem witness_DecInitSetsEveryDecoderRegister :
    let s := askedAfterError (.decInit (2 ^ 64 - 1))
    s.activity = .idle ∧ s.commands = .decInit (2 ^ 64 - 1) :: [] ∧ 2 ^ 64 - 1 ≤ Config.dtCapMax := by
  decide

theorem witness_DecodeCommandStartsTheRun :
    let s := asked (.decDecode [0x82])
    s.activity = .idle ∧ s.commands = .decDecode [0x82] :: [] ∧ s.decLive = true ∧ s.err = .ok ∧
      ([0x82] : Octets).length < 2 ^ 64 := by
  decide

theorem witness_ExhaustedRunReturnsItsHeaders : (runOf []).activity = .run ∧ (runOf []).pos = (runOf []).len := by
  decide

theorem witness_DecoderSettersSetTheirRegister :
    ([asked (.decSetMaxSize 0), asked (.decSetIntValueMax (2 ^ 64 - 1)), asked (.decSetIntEncLenMax 0),
        asked (.decSetStrLenMax (2 ^ 64 - 1))].all fun s =>
      s.activity == .idle && s.decLive && s.err == .ok) = true ∧
      (asked (.decSetMaxSize 0)).commands = .decSetMaxSize 0 :: [] ∧
      (asked (.decSetIntValueMax (2 ^ 64 - 1))).commands = .decSetIntValueMax (2 ^ 64 - 1) :: [] ∧
      (asked (.decSetIntEncLenMax 0)).commands = .decSetIntEncLenMax 0 :: [] ∧
      (asked (.decSetStrLenMax (2 ^ 64 - 1))).commands = .decSetStrLenMax (2 ^ 64 - 1) :: [] ∧
      0 < 2 ^ 64 ∧ 2 ^ 64 - 1 < 2 ^ 64 := by
  decide

theorem witness_ContextCommandsAreRefusedAfterAnError :
    let s := askedAfterError (.decSetMaxSize 0)
    s.activity = .idle ∧ s.err ≠ .ok ∧ s.commands = .decSetMaxSize 0 :: [] ∧
      ∃ n, Command.decSetMaxSize 0 = .decSetMaxSize n :=
  ⟨rfl, by decide, rfl, 0, rfl⟩

theorem witness_CommandsBeforeInitAreRefused :
    let s := { asked (.decDecode []) with decLive := false }
    let t := { asked (.encEncode []) with encLive := false }
    (s.activity = .idle ∧ s.commands = .decDecode [] :: [] ∧ s.decLive = false ∧
        ∃ B, Command.decDecode [] = .decDecode B) ∧
      t.activity = .idle ∧ t.commands = .encEncode [] :: [] ∧ t.encLive = false ∧
        ∃ hs, Command.encEncode [] = .encEncode hs :=
  ⟨⟨rfl, rfl, rfl, [], rfl⟩, rfl, rfl, rfl, [], rfl⟩

theorem witness_PrimitiveCommandsAnswerAndChangeNothing :
    let s := askedAfterError (.intDec [0x2A] 8)
    let t := askedAfterError (.intEnc (2 ^ 64 - 1) 1 0xFE)
    let u := askedAfterError (.huffEnc a)
    (s.activity = .idle ∧ s.commands = .intDec [0x2A] 8 :: [] ∧ s.decLive = true ∧ ([0x2A] : Octets).length < 2 ^ 64 ∧
        1 ≤ 8 ∧ 8 ≤ 8) ∧
      (t.activity = .idle ∧ t.commands = .intEnc (2 ^ 64 - 1) 1 0xFE :: [] ∧ 2 ^ 64 - 1 < 2 ^ 64 ∧ 1 ≤ 1 ∧ 1 ≤ 8 ∧
        (0xFE : Octet) &&& BitVec.ofNat 8 (2 ^ 1 - 1) = 0) ∧
      u.activity = .idle ∧ u.commands = .huffEnc a :: [] := by
  decide

theorem witness_EncoderContextCommandsSetTheirRegisters :
    let s := asked (.encInit 0)
    let t := asked (.encSetMaxSize (2 ^ 64 - 1))
    (s.activity = .idle ∧ 0 < 2 ^ 64 ∧ s.commands = .encInit 0 :: []) ∧
      t.activity = .idle ∧ 2 ^ 64 - 1 < 2 ^ 64 ∧ t.commands = .encSetMaxSize (2 ^ 64 - 1) :: [] ∧ t.encLive = true := by
  decide

/-- The name ":path" and a value the static table does not hold with it. -/
def path : Octets := [0x3A, 0x70, 0x61, 0x74, 0x68]

/-- The commands, and each case of the flag and of the lookup. -/
theorem witness_EncodeCommandsAnswerTheFieldOctets :
    let s := asked (.encIndexed ⟨a, b, true⟩ true)
    let t := asked (.encNoIndex ⟨a, b, false⟩ false)
    (s.activity = .idle ∧ s.encLive = true ∧ s.commands = .encIndexed ⟨a, b, true⟩ true :: []) ∧
      (t.activity = .idle ∧ t.encLive = true ∧ t.commands = .encNoIndex ⟨a, b, false⟩ false :: []) ∧
      staticName path = some 4 ∧ staticName a = none ∧ lookup s.eTable path [0x2F] = .full 4 ∧
      lookup tableAB a b = .full 62 ∧ lookup s.eTable path a = .nameOnly 4 ∧ lookup s.eTable a b = .none := by
  decide +kernel

/-- ENC.ENCODE of no header, and of one header as its first step and the rest. -/
theorem witness_EncodeCommandsConcatenate :
    let s := asked (.encEncode [⟨a, b, false⟩])
    let t := after { s with commands := .encIndexed ⟨a, b, false⟩ true :: [] }
    let u := after { t with commands := .encEncode [] :: [] }
    (asked (.encEncode [])).commands = .encEncode [] :: [] ∧ s.activity = .idle ∧ s.encLive = true ∧
      s.commands = .encEncode (⟨a, b, false⟩ :: []) :: [] ∧
      step { s with commands := .encIndexed ⟨a, b, false⟩ true :: [] } = .next t ∧
      t.reply = some (.octets [0x40, 0x81, 0x1F, 0x81, 0x8F]) ∧
      step { t with commands := .encEncode [] :: [] } = .next u ∧ u.reply = some (.octets []) :=
  ⟨by decide, by decide, by decide, by decide, next_of_isNext _ (by decide +kernel), by decide +kernel,
    next_of_isNext _ (by decide +kernel), by decide +kernel⟩

theorem witness_SensitiveHeadersAreNeverIndexedByTheEncoder : (⟨a, b, true⟩ : Header).sensitive = true := rfl

theorem witness_OnlyDecInitClearsTheError :
    let s := askedAfterError (.decInit 68)
    s.activity ≠ .run ∧ step s = .next (after s) ∧ (after s).err ≠ s.err :=
  ⟨by decide, next_of_isNext _ (by decide +kernel), by decide +kernel⟩

theorem witness_CursorAdvancesInsideTheBlock :
    let s := runOf [0x82]
    s.activity = .run ∧ s.pos < s.len ∧ step s = .next (after s) ∧ (after s).activity = .run :=
  ⟨by decide, by decide, next_of_isNext _ (by decide +kernel), by decide +kernel⟩

/-- A table whose cap is below, and one whose cap is exactly, the size of the entry (a, b). -/
theorem witness_TableAddEvictsJustEnough :
    (⟨[], 0, 33⟩ : Table).wf ∧ 33 < entrySize ⟨a, b⟩ ∧ (⟨[⟨a, b⟩], 34, 34⟩ : Table).wf ∧ entrySize ⟨a, b⟩ ≤ 34 := by
  decide

theorem witness_TableResizeEvictsJustEnough : tableAB.wf := by decide

theorem witness_TableOperationsKeepTheSizeInvariant : (⟨[⟨a, b⟩, ⟨[], []⟩], 66, 66⟩ : Table).wf := by decide

/-- Each clause: one octet within and above the value limit; a further octet at the length limit, past the end, above
the value limit, and one that ends the integer; and integers that are answered, of widths 5, 8 and 1. -/
theorem witness_IntDecAccumulatesBase128Digits :
    (1 ≤ 5 ∧ 5 ≤ 8) ∧ (intPartial [0x1E] 5 0 < 2 ^ 5 - 1 ∧ 29 < intPartial [0x1E] 5 0 ∧ intPartial [0x1E] 5 0 ≤ 30) ∧
      (intPartial [0x1F] 5 0 = 2 ^ 5 - 1 ∧ ([0x1F] : Octets).length ≤ 1 ∧ 1 ≤ 1 ∧ 1 < 2) ∧
      (intPartial [0x1F, 0x7F] 5 0 = 2 ^ 5 - 1 ∧ 1 < ([0x1F, 0x7F] : Octets).length ∧
        157 < intPartial [0x1F, 0x7F] 5 1) ∧
      intPartial [0x1F, 0x9A, 0x0A] 5 0 = 2 ^ 5 - 1 ∧
      (∀ j < 2, 1 ≤ j → j < 3 ∧ j < ([0x1F, 0x9A, 0x0A] : Octets).length ∧ intPartial [0x1F, 0x9A, 0x0A] 5 j ≤ 57 ∧
        (([0x1F, 0x9A, 0x0A] : Octets).getD j 0).getLsbD 7 = true) ∧
      intPartial [0x1F, 0x9A, 0x0A] 5 2 = 1337 ∧ (([0x1F, 0x9A, 0x0A] : Octets).getD 2 0).getLsbD 7 = false ∧
      intDec resetLimits [0x1F, 0x9A, 0x0A] 5 = .ok (3, 0, 1337) ∧
      intDec resetLimits [0x2A] 8 = .ok (1, 0, 42) ∧ intDec resetLimits [0x01, 0x00] 1 = .ok (2, 0, 1) := by
  decide +kernel

theorem witness_IntegerRoundTrip :
    (1 ≤ 5 ∧ 5 ≤ 8 ∧ (0x20 : Octet) &&& BitVec.ofNat 8 (2 ^ 5 - 1) = 0 ∧ 63 ≤ resetLimits.intValueMax ∧
        (intEnc 63 5 0x20).length ≤ max 1 resetLimits.intEncLenMax) ∧
      1 ≤ 1 ∧ 1 ≤ 8 ∧ 2 ^ 32 - 1 ≤ 2 ^ 32 - 1 := by
  decide +kernel

/-- The provisos of the round trip; and each case of the limit, of the end and of the flag H (D-STR-DEC). -/
theorem witness_StringRoundTrip :
    ((literalOf a true).payload.length ≤ resetLimits.strLenMax ∧
      (literalOf a true).payload.length ≤ resetLimits.intValueMax ∧
      (intEnc (literalOf a true).payload.length 7 0).length ≤ max 1 resetLimits.intEncLenMax) ∧
      intDec resetLimits [0x7F] 7 = .error .truncated ∧
      (intDec resetLimits [0x7F, 0x82, 0xFF, 0x03] 7 = .ok (4, 0, 65537) ∧ resetLimits.strLenMax < 65537) ∧
      (intDec resetLimits [0x7F, 0x81, 0xFF, 0x03] 7 = .ok (4, 0, 65536) ∧ 65536 ≤ resetLimits.strLenMax ∧
        ([0x7F, 0x81, 0xFF, 0x03] : Octets).length - 4 < 65536) ∧
      intDec resetLimits [0x01, 0x61] 7 = .ok (1, 0, 1) ∧ intDec resetLimits [0x81, 0x1F] 7 = .ok (1, 0x80, 1) ∧
      huffDec [0x1F] = .ok a ∧ huffDec [0xFF] = .error .huffmanDecodeFailure := by
  decide +kernel

/-- The last window below those that begin with EOS. -/
theorem witness_WalkReachesEveryCode : (0xFFFFFFFB : BitVec 32).toNat < 2 ^ 32 - 4 := by decide

theorem witness_HuffDecOutputIsBounded :
    huffTurn (huffStart [0x00, 0x00]) = .more ⟨[0x00, 0x00], 5, [0x30]⟩ ∧
      8 * ([0x00, 0x00] : Octets).length / 5 + 1 ≤ 4 ∧ huffDec [0x00, 0x00] = .ok [0x30, 0x30, 0x30] := by
  decide +kernel

theorem witness_WireCannotWriteLimitsOrEncoder :
    let s := runOf [0x20]
    s.activity = .run ∧ step s = .next (after s) :=
  ⟨by decide, next_of_isNext _ (by decide +kernel)⟩

theorem witness_WireCannotRaiseTheCapAboveProtoMax :
    let s := runOf [0x3F, 0xE1, 0x1F]
    s.activity = .run ∧ s.err = .ok ∧ step s = .next (after s) ∧ (after s).err = .ok :=
  ⟨by decide, by decide, next_of_isNext _ (by decide +kernel), by decide +kernel⟩

theorem witness_OnlyLitincInsertsIntoTheTable :
    let s := { runOf [0x20] with table := tableAB }
    s.activity = .run ∧ s.err = .ok ∧ s.pos < s.len ∧ s.block.read s.pos &&& 0xC0 ≠ 0x40 ∧
      step s = .next (after s) ∧ (after s).err = .ok :=
  ⟨by decide, by decide, by decide, by decide, next_of_isNext _ (by decide +kernel), by decide +kernel⟩

theorem witness_OnlyLitneverEmitsSensitiveHeaders :
    let s := runOf [0x10, 0x01, 0x61, 0x01, 0x62]
    s.activity = .run ∧ s.err = .ok ∧ s.pos < s.len ∧ step s = .next (after s) ∧ (after s).err = .ok :=
  ⟨by decide, by decide, by decide, next_of_isNext _ (by decide +kernel), by decide +kernel⟩

theorem witness_UnknownRepresentationIsNeverRaised :
    let s := runOf [0x80]
    s.err ≠ .unknownRepresentation ∧ s.reply ≠ some (.error .unknownRepresentation) ∧ step s = .next (after s) :=
  ⟨by decide, by decide, next_of_isNext _ (by decide +kernel)⟩

theorem runOf_inv : (runOf [0x40, 0x01, 0x61, 0x01, 0x62]).Inv :=
  ⟨by decide, by decide, by decide +kernel, by decide, by decide, by decide, by decide⟩

theorem witness_StepKeepsTheInvariant :
    let s := runOf [0x40, 0x01, 0x61, 0x01, 0x62]
    s.Inv ∧ step s = .next (after s) :=
  ⟨runOf_inv, next_of_isNext _ (by decide +kernel)⟩

/-- Also the witness of the hypotheses of the statement that every run ends. -/
theorem witness_RepresentationStepFollowsItsRule :
    (runOf [0x80]).activity = .run ∧ (runOf [0x80]).pos < (runOf [0x80]).len := by
  decide

theorem witness_EveryRunEnds : (runOf [0x82]).activity = .run ∧ (runOf [0x82]).pos ≤ (runOf [0x82]).len := by decide

theorem witness_RepresentationDecodeEncode :
    [Instr.indexed 0, .sizeupd 4294967295, .litinc (.byIndex 61) ⟨false, a⟩,
        .litnever (.literal ⟨true, [0x1F]⟩) ⟨false, []⟩, .litnoidx (.byIndex 4294967295) ⟨false, b⟩].all
      (fun i => i.unit == .representation && i.wf && resetLimits.admits i) = true := by
  decide +kernel

theorem witness_StringAndCodeDecodeEncode :
    [Instr.strRaw a, .strHuff [0x1F]].all (fun i => i.unit == .string && i.wf && resetLimits.admits i) = true ∧
      Instr.huff0.unit = .huffman ∧ Instr.huffEOS.unit = .huffman := by
  decide +kernel

theorem witness_HuffCommandComputesHuffDec :
    (askedAfterError (.huffDec a)).activity = .idle ∧
      (askedAfterError (.huffDec a)).commands = .huffDec a :: [] ∧ a.length < 2 ^ 64 := by
  decide

/-- Without a pending size update, and with one that evicts the only entry. -/
theorem witness_FieldRoundTrip :
    let s := State.reset
    let t := { State.reset with table := tableAB, eTable := ⟨[], 0, 33⟩, pending := true }
    (s.decLive = true ∧ s.err = .ok ∧ s.table.wf ∧ s.pending = false ∧ s.inSync ∧
        s.limits.admits (fieldInstr s.eTable ⟨a, b, false⟩ true .incremental) = true) ∧
      t.decLive = true ∧ t.err = .ok ∧ t.table.wf ∧ t.pending = true ∧ t.inSync ∧
        t.limits.admits (fieldInstr t.eTable ⟨a, b, true⟩ false .notIndexed) = true := by
  decide +kernel

/-- Without a pending size update, and with one. -/
theorem witness_CodecRoundTrip :
    let s := asked (.encEncode [⟨a, b, false⟩])
    let t := { s with table := tableAB, eTable := ⟨[], 0, 33⟩, pending := true }
    ((s.activity = .idle ∧ s.commands = .encEncode [⟨a, b, false⟩] :: [] ∧ s.encLive = true ∧ s.decLive = true ∧
        s.err = .ok ∧ s.table.wf ∧ s.pending = false ∧ s.inSync ∧
        fieldsAdmitted s.limits [⟨a, b, false⟩] s = true) ∧
      step s = .next (after s) ∧ (after s).reply = some (.octets [0x40, 0x81, 0x1F, 0x81, 0x8F])) ∧
    (t.activity = .idle ∧ t.commands = .encEncode [⟨a, b, false⟩] :: [] ∧ t.encLive = true ∧ t.decLive = true ∧
        t.err = .ok ∧ t.table.wf ∧ t.pending = true ∧ t.inSync ∧ fieldsAdmitted t.limits [⟨a, b, false⟩] t = true) ∧
      step t = .next (after t) ∧ (after t).reply = some (.octets [0x3F, 0x02, 0x40, 0x81, 0x1F, 0x81, 0x8F]) :=
  ⟨⟨by decide +kernel, next_of_isNext _ (by decide +kernel), by decide +kernel⟩, by decide +kernel,
    next_of_isNext _ (by decide +kernel), by decide +kernel⟩

end Sys2Proof.Tests
end

section
/-!
SUPPORT. What the machine keeps: the errors a rule can raise, what one step of each unit can do, and the proofs of the
statements about the state and its invariant (10_state).
-/

namespace Sys2Proof.Machine

/-! ### The errors a rule can raise -/

/-- A code that a rule can raise: an error, and not the defensive one (60_exceptions R321, R331). -/
abbrev Raisable (e : ErrCode) : Prop := e ≠ .ok ∧ e ≠ .unknownRepresentation

theorem intDec_error_raisable {lim : Limits} {bs : Octets} {width : Nat} {e : ErrCode}
    (h : intDec lim bs width = .error e) : Raisable e := by
  rcases intDec_error h with rfl | rfl | rfl <;> decide

theorem decodeString_error_raisable {lim : Limits} {bs : Octets} {e : ErrCode}
    (h : decodeString lim bs = .error e) : Raisable e := by
  rcases decodeString_error h with rfl | rfl | rfl | rfl <;> decide

theorem huffLoop_error {turns : Nat} {r : HuffRegs} {e : ErrCode} (h : huffLoop turns r = .error e) :
    e = .huffmanDecodeFailure := by
  induction turns generalizing r with
  | zero => cases h; rfl
  | succ turns ih =>
    simp only [huffLoop] at h
    split at h
    · exact ih h
    · cases h
    · cases h; rfl

theorem literalText_error {lit : StrLit} {e : ErrCode} (h : literalText lit = .error e) :
    e = .huffmanDecodeFailure := by
  unfold literalText at h
  split at h
  · exact huffLoop_error h
  · cases h

theorem literalText_error_raisable {lit : StrLit} {e : ErrCode} (h : literalText lit = .error e) : Raisable e := by
  rw [literalText_error h]; decide

theorem Table.get_error {t : Table} {i : Nat} {e : ErrCode} (h : t.get i = .error e) : e = .invalidIndex := by
  unfold Table.get at h
  split at h
  · cases h; rfl
  · split at h <;> cases h

theorem resolveName_error_raisable {t : Table} {name : NameRef} {e : ErrCode} (h : resolveName t name = .error e) :
    Raisable e := by
  cases name with
  | byIndex index =>
    simp only [resolveName] at h
    split at h
    · rename_i hg
      cases h
      rw [Table.get_error hg]; decide
    · cases h
  | literal lit => exact literalText_error_raisable h

/-- Of the error of a value, the one reported is that of the name if the name has one (60_exceptions R332). -/
theorem rejectError_value_raisable {e : ErrCode} (he : Raisable e) (phase : Phase) (t : Table) (name : NameRef) :
    Raisable (rejectError phase t (.value name e)) := by
  simp only [rejectError]
  split
  · rename_i hn; exact resolveName_error_raisable hn
  · exact he

theorem decodeValue_error_raisable {lim : Limits} {bs : Octets} {kind : LiteralKind} {name : NameRef} {used : Nat}
    {r : Reject} (h : decodeValue lim bs kind name used = .error r) (phase : Phase) (t : Table) :
    Raisable (rejectError phase t r) := by
  unfold decodeValue at h
  split at h
  · rename_i hs
    cases h
    exact rejectError_value_raisable (decodeString_error_raisable hs) phase t name
  · cases h

theorem decodeLiteral_error_raisable {lim : Limits} {bs : Octets} {kind : LiteralKind} {r : Reject}
    (h : decodeLiteral lim bs kind = .error r) (phase : Phase) (t : Table) : Raisable (rejectError phase t r) := by
  unfold decodeLiteral at h
  split at h
  · rename_i hi; cases h; exact intDec_error_raisable hi
  · split at h
    · split at h
      · rename_i hs; cases h; exact decodeString_error_raisable hs
      · exact decodeValue_error_raisable h phase t
    · exact decodeValue_error_raisable h phase t

/-- Octets that are no representation report an error of a rule, in every phase and with every table (60_exceptions
R331, R332). -/
theorem decodeRep_error_raisable {lim : Limits} {bs : Octets} {r : Reject} (h : decodeRep lim bs = .error r)
    (phase : Phase) (t : Table) : Raisable (rejectError phase t r) := by
  cases bs with
  | nil => cases h; exact ⟨nofun, nofun⟩
  | cons b rest =>
    simp only [decodeRep] at h
    split at h
    · split at h
      · rename_i hi; cases h; exact intDec_error_raisable hi
      · cases h
    · exact decodeLiteral_error_raisable h phase t
    · split at h
      · rename_i hi
        cases h
        simp only [rejectError]
        split
        · exact intDec_error_raisable hi
        · decide
      · cases h

/-! ### What the decoders answer -/

theorem decodeLiteral_ok {lim : Limits} {bs : Octets} {kind : LiteralKind} {i : Instr} {n : Nat}
    (h : decodeLiteral lim bs kind = .ok (i, n)) : ∃ name value, i = literalInstr kind name value := by
  have value {name used} (hv : decodeValue lim bs kind name used = .ok (i, n)) :
      ∃ name value, i = literalInstr kind name value := by
    obtain ⟨value, _, _, hi, _⟩ := decodeValue_ok hv
    exact ⟨name, value, hi⟩
  unfold decodeLiteral at h
  split at h
  · cases h
  · split at h
    · split at h
      · cases h
      · exact value h
    · exact value h

/-- A representation that decodes is of the row that its first octet selects (45_dispatch R237). -/
theorem decodeRep_ok {lim : Limits} {b : Octet} {rest : Octets} {i : Instr} {n : Nat}
    (h : decodeRep lim (b :: rest) = .ok (i, n)) :
    (repKind b = .indexed ∧ ∃ index, i = .indexed index) ∨
    (∃ kind, repKind b = .literal kind ∧ ∃ name value, i = literalInstr kind name value) ∨
    (repKind b = .sizeUpdate ∧ ∃ new, i = .sizeupd new) := by
  simp only [decodeRep] at h
  split at h
  · rename_i hk
    split at h
    · cases h
    · cases h; exact .inl ⟨hk, _, rfl⟩
  · rename_i kind hk
    exact .inr (.inl ⟨kind, hk, decodeLiteral_ok h⟩)
  · rename_i hk
    split at h
    · cases h
    · cases h; exact .inr (.inr ⟨hk, _, rfl⟩)

/-- The first octet of `LITNEVER` (30_encoding R91). -/
theorem repKind_never_iff : ∀ b : Octet, repKind b = .literal .never ↔ b &&& 0xF0 = 0x10 := by decide +kernel

theorem decodeStr_ok {lim : Limits} {bs : Octets} {i : Instr} {n : Nat} (h : decodeStr lim bs = .ok (i, n)) :
    ∃ lit, i = stringInstr lit := by
  unfold decodeStr at h
  split at h
  · cases h
  · rename_i lit _ _
    cases h
    exact ⟨lit, rfl⟩

theorem huffInstr_form_check :
    (List.range 256).all (fun sym => (huffInstr sym).form == .code sym) = true := by decide +kernel

theorem huffInstr_form {sym : Nat} (h : sym < 256) : (huffInstr sym).form = .code sym :=
  beq_iff_eq.1 (List.all_eq_true.1 huffInstr_form_check sym (List.mem_range.2 h))

/-! ### What an instruction does -/

theorem exec_literalInstr (kind : LiteralKind) (name : NameRef) (value : StrLit) (s : State) :
    exec (literalInstr kind name value) s = literalBody (kind == .incremental) (kind == .never) name value s := by
  cases kind <;> rfl

theorem exec_stringInstr (lit : StrLit) (s : State) : exec (stringInstr lit) s = stringBody lit s := by
  obtain ⟨huffman, payload⟩ := lit
  cases huffman <;> rfl

/-- A Huffman row does what its symbol says, and `HUFF.EOS` fails (43_huffman_table R201, 42_huffman R174). -/
theorem exec_of_code {i : Instr} {sym : Nat} (h : i.form = .code sym) (s : State) :
    exec i s = if sym = eosSymbol then eosBody s else codeBody sym s := by
  cases i <;> cases h <;> rfl

theorem exec_huffInstr {sym : Nat} (h : sym < 256) (s : State) : exec (huffInstr sym) s = codeBody sym s := by
  rw [exec_of_code (huffInstr_form h), if_neg (by simp only [eosSymbol]; omega)]

/-! ### What a step of each unit can do -/

/-- What one step of a run can lead to (45_dispatch R236 to R245, 60_exceptions R330): the end of the run; an error;
after a field representation of `n` octets, its header, which is sensitive for `LITNEVER` alone and inserted for
`LITINC` alone; after a size update of `n` octets, the new cap. -/
inductive RunStep (s : State) : State → Prop where
  | finished (hend : s.len ≤ s.pos) : RunStep s (finishRun s)
  | raised (e : ErrCode) (he : Raisable e) : RunStep s (s.raise e)
  | field (n : Nat) (h : Header) (inserts : Bool) (hn : 1 ≤ n) (hle : s.pos + n ≤ s.len)
      (hsensitive : h.sensitive = true ↔ repKind (s.block.read s.pos) = .literal .never)
      (hinserts : inserts = true ↔ repKind (s.block.read s.pos) = .literal .incremental) :
      RunStep s
        { s with
          pos := s.pos + n
          out := s.out ++ [h]
          phase := .awaitingField
          table := if inserts then s.table.add ⟨h.name, h.value⟩ else s.table }
  | sizeUpdate (n new : Nat) (hn : 1 ≤ n) (hle : s.pos + n ≤ s.len)
      (hkind : repKind (s.block.read s.pos) = .sizeUpdate) (horder : s.phase = .awaitingSizeUpdates)
      (hnew : new ≤ s.protoMax) :
      RunStep s { s with pos := s.pos + n, table := s.table.resize new }

/-- `INDEXED` in a run raises an error or emits an entry. -/
theorem runStep_of_indexed {s t : State} {n index : Nat} (hn : 1 ≤ n) (hle : s.pos + n ≤ s.len)
    (hk : repKind (s.block.read s.pos) = .indexed) (ht : exec (.indexed index) (s.advance n) = .next t) :
    RunStep s t := by
  change execIndexed index (s.advance n) = .next t at ht
  rcases execIndexed_cases index (s.advance n) with ⟨_, he⟩ | ⟨e, _, hg, he⟩ | ⟨entry, _, _, he⟩ <;>
    rw [he] at ht <;> cases ht
  · exact .raised _ (by decide)
  · exact .raised e (by rw [Table.get_error hg]; decide)
  · exact .field n ⟨entry.name, entry.value, false⟩ false hn hle (by simp [hk]) (by simp [hk])

/-- A literal in a run raises the error of its name or of its value, or emits its header, inserting it for `LITINC`. -/
theorem runStep_of_literal {s t : State} {n : Nat} {kind : LiteralKind} {name : NameRef} {value : StrLit}
    (hn : 1 ≤ n) (hle : s.pos + n ≤ s.len) (hk : repKind (s.block.read s.pos) = .literal kind)
    (ht : exec (literalInstr kind name value) (s.advance n) = .next t) : RunStep s t := by
  rw [exec_literalInstr] at ht
  rcases literalBody_cases (kind == .incremental) (kind == .never) name value (s.advance n) with
    ⟨e, hr, he⟩ | ⟨_, e, _, hv, he⟩ | ⟨text, v, _, _, he⟩ <;> rw [he] at ht <;> cases ht
  · exact .raised e (resolveName_error_raisable hr)
  · exact .raised e (literalText_error_raisable hv)
  · have hfield := RunStep.field (s := s) n ⟨text, v, kind == .never⟩ (kind == .incremental) hn hle
      (by simp [hk]) (by simp [hk])
    cases kind <;> exact hfield

/-- `SIZEUPD` in a run raises an error or sets a cap of at most `PROTO_MAX`. -/
theorem runStep_of_sizeupd {s t : State} {n new : Nat} (hn : 1 ≤ n) (hle : s.pos + n ≤ s.len)
    (hk : repKind (s.block.read s.pos) = .sizeUpdate) (ht : exec (.sizeupd new) (s.advance n) = .next t) :
    RunStep s t := by
  change execSizeupd new (s.advance n) = .next t at ht
  rcases execSizeupd_cases new (s.advance n) with ⟨_, he⟩ | ⟨_, _, he⟩ | ⟨horder, hnew, he⟩ <;>
    rw [he] at ht <;> cases ht
  · exact .raised _ (by decide)
  · exact .raised _ (by decide)
  · exact .sizeUpdate n new hn hle hk horder hnew

/-- All that a step of a run can do. -/
theorem runStep_of_step {s t : State} (hrun : s.activity = .run) (ht : step s = .next t) : RunStep s t := by
  have hfetch : fetch s = fetchRep s := by simp only [fetch, hrun]
  rw [step, hfetch] at ht
  rcases fetchRep_cases s with ⟨hend, hf⟩ | ⟨r, _, hd, hf⟩ | ⟨i, n, hlt, hd, hn, hle, hf⟩ <;> rw [hf] at ht
  · cases ht
    exact .finished hend
  · cases ht
    exact .raised _ (decodeRep_error_raisable hd s.phase s.table)
  · rw [State.octetsFrom_cons s hlt] at hd
    rcases decodeRep_ok hd with ⟨hk, index, rfl⟩ | ⟨kind, hk, name, value, rfl⟩ | ⟨hk, new, rfl⟩
    · exact runStep_of_indexed hn hle hk ht
    · exact runStep_of_literal hn hle hk ht
    · exact runStep_of_sizeupd hn hle hk ht

/-- A step of the STR unit answers the host and does nothing else (41_string R151). -/
theorem step_string {s : State} {offset : Nat} (h : s.activity = .string offset) :
    ∃ r, step s = .next (s.answer r) := by
  have hfetch : fetch s = fetchString s offset := by simp only [fetch, h]
  rw [step, hfetch, fetchString]
  cases hd : decodeStr s.limits (s.octetsFrom offset) with
  | error r => exact ⟨_, rfl⟩
  | ok x =>
    obtain ⟨i, n⟩ := x
    obtain ⟨lit, rfl⟩ := decodeStr_ok hd
    dsimp only
    rw [exec_stringInstr]
    rcases stringBody_cases lit { s with activity := .string (offset + n) } with ⟨e, _, he⟩ | ⟨text, _, he⟩
    · exact ⟨_, he⟩
    · exact ⟨_, he⟩

/-- A step of the HUFF unit is one turn of the loop of `HUFF.DEC` (42_huffman R176). -/
theorem step_huffman {s : State} {r : HuffRegs} (h : s.activity = .huffman r) :
    step s = .next (s.afterTurn (huffTurn r)) := by
  have hfetch : fetch s = fetchCode s r := by simp only [fetch, h]
  rw [step, hfetch, fetchCode, huffTurn]
  cases huffAtEnd r with
  | true => rfl
  | false =>
    simp only [decodeCode]
    cases hw : walk (window r.payload r.bitpos) with
    | empty => rfl
    | exhausted => rfl
    | leaf sym len =>
      obtain ⟨hsym, rfl⟩ := walk_leaf hw
      exact (exec_huffInstr hsym s).trans (codeBody_eq sym h)

theorem step_idle {s : State} (h : s.activity = .idle) : step s = .next (takeCommand s) := by
  simp only [step, fetch, h]

/-! ### The tables keep their invariant -/

/-- What the eviction loop leaves has the right size; and unless it is empty, the loop's test is over. -/
theorem Table.evictWhile_size (p : Nat → Bool) {t : Table} (h : t.curSize = sizeSum t.entries) :
    let u := t.evictWhile p t.entries.length
    u.curSize = sizeSum u.entries ∧ (u.curSize = 0 ∨ p u.curSize = false) := by
  obtain ⟨k, _, hentries, hcur, hend, _⟩ := Table.evictWhile_spec p t.entries.length t h le_rfl
  dsimp only
  rw [hentries, hcur]
  exact ⟨rfl, hend.imp_left fun hk => by simp [hk, sizeSum]⟩

/-- `DT.ADD` keeps 44_tables R219. -/
theorem Table.add_wf {t : Table} (h : t.wf) (e : Entry) : (t.add e).wf := by
  obtain ⟨hsize, hend⟩ :=
    Table.evictWhile_size (fun cur => decide (t.maxSize < cur + entrySize e)) h.1
  rw [decide_eq_false_iff_not] at hend
  refine ⟨?_, ?_⟩
  · unfold Table.add
    dsimp only
    split
    · exact hsize
    · rw [sizeSum_cons, hsize]; exact Nat.add_comm _ _
  · rw [Table.add_maxSize]
    unfold Table.add
    dsimp only
    split
    · omega
    · rename_i hfits
      rw [Table.evictWhile_maxSize] at hfits
      dsimp only
      omega

/-- `DT.RESIZE` keeps 44_tables R219. -/
theorem Table.resize_wf {t : Table} (h : t.wf) (new : Nat) : (t.resize new).wf := by
  obtain ⟨hsize, hend⟩ :=
    Table.evictWhile_size (t := { t with maxSize := new }) (fun cur => decide (new < cur)) h.1
  rw [decide_eq_false_iff_not] at hend
  refine ⟨hsize, ?_⟩
  rw [Table.resize_maxSize]
  exact hend.elim (fun h0 => h0.trans_le (Nat.zero_le _)) Nat.le_of_not_lt

theorem emptyTable_wf (max : Nat) : (emptyTable max).wf := ⟨rfl, Nat.zero_le _⟩

end Sys2Proof.Machine
end

section
/-!
SUPPORT. The statements about the state: what reset gives, what an error leaves, what a step of a run can write, and
the invariant that every step keeps (10_state, 44_tables R219, 60_exceptions R330, R337).
-/

namespace Sys2Proof.Machine

/-! ### Admission -/

theorem decAdmitted_iff (s : State) : decAdmitted s = true ↔ s.decLive = true ∧ s.err = .ok := by
  simp [decAdmitted, healthy]

theorem fitsWord_iff (n : Nat) : fitsWord n = true ↔ n < Config.wordLimit := decide_eq_true_iff

theorem fitsTable_iff (n : Nat) : fitsTable n = true ↔ n < Config.wordLimit := by
  simp only [fitsTable, decide_eq_true_iff, Config.dtCapMax, Config.wordLimit]
  omega

/-! ### Reset and errors -/

/-- Settles O1: both contexts are constructed with the operand `Config.resetMaxSize`. -/
theorem resetConstructsBothContexts : Obligations.ResetConstructsBothContexts := by
  unfold Obligations.ResetConstructsBothContexts
  exact ⟨Config.resetMaxSize, Config.resetMaxSize, rfl, rfl, rfl, rfl, rfl, rfl, rfl, rfl, rfl, rfl, rfl, rfl, rfl⟩

theorem State.reset_inv : State.reset.Inv where
  table := fun _ => emptyTable_wf _
  eTable := emptyTable_wf _
  block := ⟨List.Pairwise.nil, nofun⟩
  widths := by decide
  run := nofun
  huff := Nat.zero_le _
  noUnknown := nofun

/-- Settles O2: both tables are empty, every register is a small number, and nothing is in progress. -/
theorem resetMeetsInvariant : Obligations.ResetMeetsInvariant := State.reset_inv

/-- Settles O22, by the definition of `State.raise`. -/
theorem raiseChangesOnlyWhatTheSpecLeavesOpen : Obligations.RaiseChangesOnlyWhatTheSpecLeavesOpen := by
  unfold Obligations.RaiseChangesOnlyWhatTheSpecLeavesOpen
  intro s e
  exact ⟨(s.raise e).table, (s.raise e).phase, (s.raise e).pos, (s.raise e).out, (s.raise e).freeCount, rfl⟩

/-! ### What a step of a run can write -/

/-- Settles O34: the only steps that leave the run in progress consume the octets of a representation. -/
theorem cursorAdvancesInsideTheBlock : Obligations.CursorAdvancesInsideTheBlock := by
  unfold Obligations.CursorAdvancesInsideTheBlock
  intro s t hrun _ ht hgoesOn
  cases runStep_of_step hrun ht with
  | finished => cases hgoesOn
  | raised => cases hgoesOn
  | field n h inserts hn hle => exact ⟨Nat.lt_add_of_pos_right hn, hle, rfl, rfl⟩
  | sizeUpdate n new hn hle => exact ⟨Nat.lt_add_of_pos_right hn, hle, rfl, rfl⟩

/-- Settles O48: none of the four things a step of a run can do writes one of these registers. -/
theorem wireCannotWriteLimitsOrEncoder : Obligations.WireCannotWriteLimitsOrEncoder := by
  unfold Obligations.WireCannotWriteLimitsOrEncoder
  intro s t hrun ht
  cases runStep_of_step hrun ht <;> exact ⟨rfl, rfl, rfl, rfl, rfl, rfl, rfl, rfl, rfl⟩

/-- Settles O49: a field keeps the cap, and a size update sets one of at most `PROTO_MAX`. -/
theorem wireCannotRaiseTheCapAboveProtoMax : Obligations.WireCannotRaiseTheCapAboveProtoMax := by
  unfold Obligations.WireCannotRaiseTheCapAboveProtoMax
  intro s t hrun _ ht herr
  cases runStep_of_step hrun ht with
  | finished => exact .inl rfl
  | raised e he => exact absurd herr he.1
  | field n h inserts =>
    left
    cases inserts with
    | false => rfl
    | true => exact Table.add_maxSize _ _
  | sizeUpdate n new _ _ _ _ hnew =>
    right
    exact (Table.resize_maxSize s.table new).trans_le hnew

/-- Settles O51: only a field representation emits, one header, and only that of `LITNEVER` is sensitive. -/
theorem onlyLitneverEmitsSensitiveHeaders : Obligations.OnlyLitneverEmitsSensitiveHeaders := by
  unfold Obligations.OnlyLitneverEmitsSensitiveHeaders
  intro s t hrun _ _ ht herr
  cases runStep_of_step hrun ht with
  | finished => exact .inl rfl
  | raised e he => exact absurd herr he.1
  | field n h inserts _ _ hsensitive => exact .inr ⟨h, rfl, hsensitive.trans (repKind_never_iff _)⟩
  | sizeUpdate => exact .inl rfl

/-! ### What a command does to ERR -/

theorem State.perform_err {s after : State} (h : after.err = s.err) (admitted : Bool) :
    (s.perform admitted after).err = s.err := by
  unfold State.perform
  split
  · exact h
  · rfl

theorem encFields_err (hs : List Header) (s : State) : (encFields hs s).2.err = s.err := by
  induction hs generalizing s with
  | nil => rfl
  | cons h hs ih => exact ih _

theorem State.encoded_err {s : State} {result : Octets × State} (h : result.2.err = s.err) :
    (s.encoded result).err = s.err := by
  unfold State.encoded
  split
  · exact h
  · rfl

/-- A command leaves `ERR` alone, or is a `DEC.INIT` that clears it (46_commands R266, R278). -/
theorem runCommand_err (c : Command) (s : State) :
    (runCommand c s).err = s.err ∨ (∃ max, c = .decInit max) ∧ (runCommand c s).err = .ok := by
  cases c with
  | decInit max =>
    simp only [runCommand, commandDecInit, State.perform]
    split
    · exact .inr ⟨⟨max, rfl⟩, rfl⟩
    · exact .inl rfl
  | decDecode block =>
    left
    simp only [runCommand, commandDecDecode]
    split <;> rfl
  | decSetMaxSize n => exact .inl (State.perform_err (by rfl) _)
  | decSetIntValueMax n => exact .inl (State.perform_err (by rfl) _)
  | decSetIntEncLenMax n => exact .inl (State.perform_err (by rfl) _)
  | decSetStrLenMax n => exact .inl (State.perform_err (by rfl) _)
  | intDec buffer width =>
    left
    simp only [runCommand, commandIntDec]
    split
    · split <;> rfl
    · rfl
  | intEnc v width flags =>
    left
    simp only [runCommand, commandIntEnc]
    split <;> rfl
  | huffDec payload =>
    left
    simp only [runCommand, commandHuffDec]
    split <;> rfl
  | huffEnc text => exact .inl rfl
  | encInit max => exact .inl (State.perform_err (by rfl) _)
  | encSetMaxSize n => exact .inl (State.perform_err (by rfl) _)
  | encIndexed h huffman => exact .inl (State.encoded_err rfl)
  | encNoIndex h huffman => exact .inl (State.encoded_err rfl)
  | encEncode headers => exact .inl (State.encoded_err (encFields_err headers s))

/-- A turn of the HUFF unit reports its errors to the host alone (46_commands R278). -/
theorem State.afterTurn_err (s : State) (turn : HuffTurn) : (s.afterTurn turn).err = s.err := by
  cases turn <;> rfl

/-- Settles O33: outside a run `ERR` is written by the commands alone, and of these by `DEC.INIT` alone. -/
theorem onlyDecInitClearsTheError : Obligations.OnlyDecInitClearsTheError := by
  unfold Obligations.OnlyDecInitClearsTheError
  intro s t hnotRun ht hchanged
  cases hact : s.activity with
  | run => exact absurd hact hnotRun
  | string offset =>
    obtain ⟨r, hr⟩ := step_string hact
    cases hr.symm.trans ht
    exact absurd rfl hchanged
  | huffman r =>
    cases (step_huffman hact).symm.trans ht
    exact absurd (State.afterTurn_err s _) hchanged
  | idle =>
    cases (step_idle hact).symm.trans ht
    unfold takeCommand at hchanged ⊢
    cases hcommands : s.commands with
    | nil => simp [hcommands] at hchanged
    | cons c rest =>
      simp only [hcommands] at hchanged ⊢
      rcases runCommand_err c { s with commands := rest } with hsame | ⟨⟨max, rfl⟩, hok⟩
      · exact absurd hsame hchanged
      · exact ⟨trivial, hok, max, rest, rfl⟩

/-! ### HUFF.DEC as a command -/

theorem core_run_succ {M : Host.Core} {s t : M.State} (h : M.step s = .next t) (k : Nat) :
    M.run (k + 1) s = M.run k t := by
  rw [Host.Core.run, h]

theorem run_succ_of_step {s t : State} (h : step s = .next t) (k : Nat) :
    Host.Core.run Sys2Proof.core (k + 1) s = Host.Core.run Sys2Proof.core k t :=
  core_run_succ (M := Sys2Proof.core) h k

/-- From a bit position on, the HUFF unit delivers what the loop of `HUFF.DEC` does, one turn a step: five bits a turn
are enough for the bound on the turns never to be met (42_huffman R176, R180). -/
theorem run_huffman (s : State) (turns : Nat) (r : HuffRegs)
    (hbits : 8 * r.payload.length - r.bitpos < 5 * turns) :
    ∃ k ≤ turns, Host.Core.run Sys2Proof.core k { s with activity := .huffman r } =
      .next (s.answer (primitiveReply .octets (huffLoop turns r))) := by
  induction turns generalizing r with
  | zero => omega
  | succ turns ih =>
    have hstep : step { s with activity := .huffman r } =
        .next ({ s with activity := .huffman r }.afterTurn (huffTurn r)) := step_huffman rfl
    rw [huffLoop]
    cases hturn : huffTurn r with
    | more r' =>
      obtain ⟨_, _, hpayload, _, _, hfive, hinside⟩ := huffTurn_more hturn
      obtain ⟨k, hk, hloop⟩ := ih r' (by rw [hpayload]; omega)
      rw [hturn] at hstep
      exact ⟨k + 1, by omega, (run_succ_of_step hstep k).trans hloop⟩
    | finished text =>
      rw [hturn] at hstep
      exact ⟨1, by omega, run_succ_of_step hstep 0⟩
    | failed =>
      rw [hturn] at hstep
      exact ⟨1, by omega, run_succ_of_step hstep 0⟩

/-- Settles O58: one step takes the command, and the rest is the loop from bit position 0. -/
theorem huffCommandComputesHuffDec : Obligations.HuffCommandComputesHuffDec := by
  unfold Obligations.HuffCommandComputesHuffDec
  intro s S rest hidle hcommands hlen
  have hstart : step s = .next { s with commands := rest, activity := .huffman ⟨S, 0, []⟩ } := by
    rw [step_idle hidle]
    simp only [takeCommand, hcommands, runCommand, commandHuffDec]
    rw [if_pos ((fitsWord_iff S.length).2 hlen)]
    rfl
  obtain ⟨k, hk, hloop⟩ := run_huffman { s with commands := rest } (8 * S.length / 5 + 1) (huffStart S)
    (by simp only [huffStart]; omega)
  refine ⟨hstart, k + 1, by omega, (run_succ_of_step hstart k).trans (hloop.trans ?_)⟩
  rw [hidle]
  rfl

/-! ### The invariant -/

/-- The end of what is in progress keeps the invariant. -/
theorem State.Inv.answer {s : State} (h : s.Inv) (r : Reply) : (s.answer r).Inv where
  table := h.table
  eTable := h.eTable
  block := h.block
  widths := h.widths
  run := nofun
  huff := Nat.zero_le _
  noUnknown := h.noUnknown

/-- An error keeps the invariant, its free values being 64-bit values and its table no longer bound (60_exceptions
R330). -/
theorem State.Inv.raise {s : State} (h : s.Inv) {e : ErrCode} (he : Raisable e) : (s.raise e).Inv where
  table := fun hok => absurd hok he.1
  eTable := h.eTable
  block := h.block
  widths := by
    obtain ⟨_, hproto, hvalue, henc, hstr, _, hlen, hemax⟩ := h.widths
    exact ⟨BitVec.isLt _, hproto, hvalue, henc, hstr, BitVec.isLt _, hlen, hemax⟩
  run := nofun
  huff := Nat.zero_le _
  noUnknown := he.2

/-- A step of a run that goes on keeps the invariant when it keeps the cursor in the block, the phase off `Done`, and
the table's own invariant. -/
theorem State.Inv.goOn {s : State} (h : s.Inv) (hrun : s.activity = .run) {pos : Nat} {phase : Phase} {table : Table}
    {out : List Header} (hpos : pos ≤ s.len) (hphase : phase ≠ .done) (htable : table.wf)
    (hmax : table.maxSize < Config.wordLimit) :
    { s with pos := pos, phase := phase, table := table, out := out }.Inv := by
  obtain ⟨_, hproto, hvalue, henc, hstr, _, hlen, hemax⟩ := h.widths
  obtain ⟨hlive, herr, _, _⟩ := h.run hrun
  exact {
    table := fun _ => htable
    eTable := h.eTable
    block := h.block
    widths := ⟨hmax, hproto, hvalue, henc, hstr, hpos.trans_lt hlen, hlen, hemax⟩
    run := fun _ => ⟨hlive, herr, hpos, hphase⟩
    huff := h.huff
    noUnknown := h.noUnknown }

theorem RunStep.inv {s t : State} (h : s.Inv) (hrun : s.activity = .run) (hst : RunStep s t) : t.Inv := by
  obtain ⟨hmax, hproto, _⟩ := h.widths
  obtain ⟨_, herr, _, hphase⟩ := h.run hrun
  have hwf : s.table.wf := h.table herr
  cases hst with
  | finished => exact ⟨h.table, h.eTable, h.block, h.widths, nofun, Nat.zero_le _, h.noUnknown⟩
  | raised e he => exact h.raise he
  | field n header inserts _ hle =>
    have htable : (if inserts then s.table.add ⟨header.name, header.value⟩ else s.table).wf ∧
        (if inserts then s.table.add ⟨header.name, header.value⟩ else s.table).maxSize = s.table.maxSize := by
      cases inserts with
      | false => exact ⟨hwf, rfl⟩
      | true => exact ⟨Table.add_wf hwf _, Table.add_maxSize _ _⟩
    obtain ⟨htablewf, htablemax⟩ := htable
    exact h.goOn hrun hle (by decide) htablewf (htablemax.trans_lt hmax)
  | sizeUpdate n new _ hle _ _ hnew =>
    exact h.goOn hrun hle hphase (Table.resize_wf hwf new)
      ((Table.resize_maxSize _ _).trans_lt (hnew.trans_lt hproto))

/-- A turn of the HUFF unit keeps the bit position inside the payload (42_huffman R180). -/
theorem State.Inv.afterTurn {s : State} (h : s.Inv) (r : HuffRegs) : (s.afterTurn (huffTurn r)).Inv := by
  cases hturn : huffTurn r with
  | more r' =>
    obtain ⟨_, _, hpayload, _, _, _, hinside⟩ := huffTurn_more hturn
    rw [← hpayload] at hinside
    exact ⟨h.table, h.eTable, h.block, h.widths, nofun, hinside, h.noUnknown⟩
  | finished text => exact h.answer _
  | failed => exact h.answer _

/-! The commands -/

theorem State.Inv.perform {s after : State} (h : s.Inv) {admitted : Bool} (hafter : admitted = true → after.Inv) :
    (s.perform admitted after).Inv := by
  unfold State.perform
  split
  · rename_i hadmitted; exact (hafter hadmitted).answer _
  · exact h.answer _

theorem State.Inv.initDecoder {s : State} (h : s.Inv) {max : Nat} (hmax : max < Config.wordLimit) :
    (s.initDecoder max).Inv where
  table := fun _ => emptyTable_wf max
  eTable := h.eTable
  block := h.block
  widths := by
    obtain ⟨_, _, _, _, _, _, hlen, hemax⟩ := h.widths
    obtain ⟨_, _, hvalue, henc, hstr, hpos, _⟩ := State.reset_inv.widths
    exact ⟨hmax, hmax, hvalue, henc, hstr, hpos, hlen, hemax⟩
  run := fun _ => ⟨rfl, rfl, Nat.zero_le _, nofun⟩
  huff := h.huff
  noUnknown := nofun

theorem State.Inv.startRun {s : State} (h : s.Inv) (hadmitted : decAdmitted s = true) {block : Octets}
    (hlen : block.length < Config.wordLimit) : (s.startRun block).Inv where
  table := h.table
  eTable := h.eTable
  block := Memory.ofBlock_wf block
  widths := by
    obtain ⟨hmax, hproto, hvalue, henc, hstr, _, _, hemax⟩ := h.widths
    exact ⟨hmax, hproto, hvalue, henc, hstr, by simp, hlen, hemax⟩
  run := fun _ => by
    obtain ⟨hlive, herr⟩ := (decAdmitted_iff s).1 hadmitted
    exact ⟨hlive, herr, Nat.zero_le _, nofun⟩
  huff := Nat.zero_le _
  noUnknown := h.noUnknown

/-- The encoder context may take any table that obeys 44_tables R219 and whose cap fits. -/
theorem State.Inv.setEncoder {s : State} (h : s.Inv) (live pending : Bool) {table : Table} (htable : table.wf)
    (hmax : table.maxSize < Config.wordLimit) :
    { s with encLive := live, eTable := table, pending := pending }.Inv where
  table := h.table
  eTable := htable
  block := h.block
  widths := by
    obtain ⟨hdmax, hproto, hvalue, henc, hstr, hpos, hlen, _⟩ := h.widths
    exact ⟨hdmax, hproto, hvalue, henc, hstr, hpos, hlen, hmax⟩
  run := h.run
  huff := h.huff
  noUnknown := h.noUnknown

/-- The three limits may take any values that fit. -/
theorem State.Inv.setLimits {s : State} (h : s.Inv) {value encLen strLen : Nat} (hvalue : value < Config.wordLimit)
    (henc : encLen < Config.wordLimit) (hstr : strLen < Config.wordLimit) :
    { s with intValueMax := value, intEncLenMax := encLen, strLenMax := strLen }.Inv where
  table := h.table
  eTable := h.eTable
  block := h.block
  widths := by
    obtain ⟨hmax, hproto, _, _, _, hpos, hlen, hemax⟩ := h.widths
    exact ⟨hmax, hproto, hvalue, henc, hstr, hpos, hlen, hemax⟩
  run := h.run
  huff := h.huff
  noUnknown := h.noUnknown

theorem State.Inv.encField {s : State} (h : s.Inv) (header : Header) (huffman : Bool) (policy : EncodePolicy) :
    (encField header huffman policy s).2.Inv := by
  obtain ⟨_, _, _, _, _, _, _, hemax⟩ := h.widths
  unfold Machine.encField
  cases fieldInserts s.eTable header policy with
  | false => exact h.setEncoder s.encLive false h.eTable hemax
  | true =>
    exact h.setEncoder s.encLive false (Table.add_wf h.eTable _) ((Table.add_maxSize _ _).trans_lt hemax)

theorem State.Inv.encFields {s : State} (h : s.Inv) (headers : List Header) : (encFields headers s).2.Inv := by
  induction headers generalizing s with
  | nil => exact h
  | cons header headers ih => exact ih (h.encField header true .incremental)

theorem State.Inv.encoded {s : State} (h : s.Inv) {result : Octets × State} (hresult : result.2.Inv) :
    (s.encoded result).Inv := by
  unfold State.encoded
  split
  · exact hresult.answer _
  · exact h.answer _

theorem State.Inv.runCommand {s : State} (h : s.Inv) (c : Command) : (runCommand c s).Inv := by
  obtain ⟨hmax, hproto, hvalue, henc, hstr, hpos, hlen, hemax⟩ := h.widths
  cases c with
  | decInit max => exact h.perform fun hfits => h.initDecoder ((fitsTable_iff max).1 hfits)
  | decDecode block =>
    simp only [Machine.runCommand, commandDecDecode]
    split
    · rename_i hadmitted
      obtain ⟨hdec, hfits⟩ := Bool.and_eq_true_iff.1 hadmitted
      exact h.startRun hdec ((fitsWord_iff _).1 hfits)
    · exact h.answer _
  | decSetMaxSize n =>
    refine h.perform fun hadmitted => ?_
    obtain ⟨hdec, hfits⟩ := Bool.and_eq_true_iff.1 hadmitted
    obtain ⟨_, herr⟩ := (decAdmitted_iff s).1 hdec
    exact {
      table := fun _ => Table.resize_wf (h.table herr) n
      eTable := h.eTable
      block := h.block
      widths := ⟨(Table.resize_maxSize _ _).trans_lt ((fitsTable_iff n).1 hfits), hproto, hvalue, henc, hstr, hpos,
        hlen, hemax⟩
      run := h.run
      huff := h.huff
      noUnknown := h.noUnknown }
  | decSetIntValueMax n =>
    refine h.perform fun hadmitted => ?_
    exact h.setLimits ((fitsWord_iff n).1 (Bool.and_eq_true_iff.1 hadmitted).2) henc hstr
  | decSetIntEncLenMax n =>
    refine h.perform fun hadmitted => ?_
    exact h.setLimits hvalue ((fitsWord_iff n).1 (Bool.and_eq_true_iff.1 hadmitted).2) hstr
  | decSetStrLenMax n =>
    refine h.perform fun hadmitted => ?_
    exact h.setLimits hvalue henc ((fitsWord_iff n).1 (Bool.and_eq_true_iff.1 hadmitted).2)
  | intDec buffer width =>
    simp only [Machine.runCommand, commandIntDec]
    split
    · split <;> exact h.answer _
    · exact h.answer _
  | intEnc v width flags =>
    simp only [Machine.runCommand, commandIntEnc]
    split <;> exact h.answer _
  | huffDec payload =>
    simp only [Machine.runCommand, commandHuffDec]
    split
    · exact ⟨h.table, h.eTable, h.block, h.widths, nofun, Nat.zero_le _, h.noUnknown⟩
    · exact h.answer _
  | huffEnc text => exact h.answer _
  | encInit max =>
    exact h.perform fun hfits => h.setEncoder true false (emptyTable_wf max) ((fitsTable_iff max).1 hfits)
  | encSetMaxSize n =>
    refine h.perform fun hadmitted => ?_
    obtain ⟨_, hfits⟩ := Bool.and_eq_true_iff.1 hadmitted
    exact h.setEncoder s.encLive true (Table.resize_wf h.eTable n)
      ((Table.resize_maxSize _ _).trans_lt ((fitsTable_iff n).1 hfits))
  | encIndexed header huffman => exact h.encoded (h.encField header huffman .incremental)
  | encNoIndex header huffman => exact h.encoded (h.encField header huffman .notIndexed)
  | encEncode headers => exact h.encoded (h.encFields headers)

theorem State.Inv.takeCommand {s : State} (h : s.Inv) : (takeCommand s).Inv := by
  unfold Machine.takeCommand
  split
  · exact h
  · rename_i c rest _
    have hqueue : { s with commands := rest }.Inv :=
      ⟨h.table, h.eTable, h.block, h.widths, h.run, h.huff, h.noUnknown⟩
    exact hqueue.runCommand c

/-- Settles O53, unit by unit: the idle block, a run, the STR unit and the HUFF unit each keep the invariant. -/
theorem stepKeepsTheInvariant : Obligations.StepKeepsTheInvariant := by
  unfold Obligations.StepKeepsTheInvariant
  intro s t h ht
  cases hact : s.activity with
  | idle =>
    cases (step_idle hact).symm.trans ht
    exact h.takeCommand
  | run => exact RunStep.inv h hact (runStep_of_step hact ht)
  | string offset =>
    obtain ⟨r, hr⟩ := step_string hact
    cases hr.symm.trans ht
    exact h.answer r
  | huffman r =>
    cases (step_huffman hact).symm.trans ht
    exact h.afterTurn r

end Sys2Proof.Machine
end

section
/-!
SUPPORT. Decoding of an encoding: the integer rule, read back digit by digit (40_integer R138), string literals
(30_encoding R97), the dispatch on the first octet (R91), and each form of representation (R90, R93).
-/

namespace Sys2Proof.Machine

open Sys2Proof.Laws

/-! ### The first octet of an integer -/

theorem prefixMax_lt (width : Nat) : prefixMax width < 2 ^ width :=
  Nat.sub_lt (Nat.two_pow_pos width) Nat.one_pos

/-- A value of at most `width` bits lies inside the mask of the low `width` bits. -/
theorem ofNat_and_prefixMask {x width : Nat} (hx : x < 2 ^ width) :
    BitVec.ofNat 8 x &&& BitVec.ofNat 8 (prefixMax width) = BitVec.ofNat 8 x := by
  rw [← BitVec.ofNat_and, prefixMax, Nat.and_two_pow_sub_one_eq_mod, Nat.mod_eq_of_lt hx]

/-- The low bits of an octet made of flag bits and a value are the value (40_integer R131 step 3, R136 step 2). -/
theorem prefixValue_or {flags : Octet} {x width : Nat} (hw : width ≤ 8)
    (hflags : flags &&& BitVec.ofNat 8 (prefixMax width) = 0) (hx : x < 2 ^ width) :
    prefixValue (flags ||| BitVec.ofNat 8 x) width = x := by
  have hx8 : x < 2 ^ 8 := hx.trans_le (Nat.pow_le_pow_right two_pos hw)
  have hand : (flags ||| BitVec.ofNat 8 x) &&& BitVec.ofNat 8 (prefixMax width) = BitVec.ofNat 8 x := by
    rw [BitVec.and_or_distrib_right, hflags, ofNat_and_prefixMask hx]
    exact BitVec.zero_or
  rw [prefixValue, hand, BitVec.toNat_ofNat, Nat.mod_eq_of_lt hx8]

/-- The flag bits of an octet made of flag bits and a value are the flag bits (40_integer R131 step 3). -/
theorem flagBits_or {flags : Octet} {x width : Nat} (hflags : flags &&& BitVec.ofNat 8 (prefixMax width) = 0)
    (hx : x < 2 ^ width) : flagBits (flags ||| BitVec.ofNat 8 x) width = flags := by
  have hmask := ofNat_and_prefixMask hx
  unfold flagBits
  generalize BitVec.ofNat 8 (prefixMax width) = mask at hflags hmask ⊢
  generalize BitVec.ofNat 8 x = value at hmask ⊢
  ext i hi
  have hf := congrArg (·[i]) hflags
  have hm := congrArg (·[i]) hmask
  simp only [BitVec.getElem_and, BitVec.getElem_or, BitVec.getElem_not, BitVec.ofNat_eq_ofNat,
    BitVec.getElem_zero] at hf hm ⊢
  revert hf hm
  cases flags[i] <;> cases value[i] <;> cases mask[i] <;> decide

/-! ### The octets that follow the first -/

theorem lastDigit_bits : ∀ d < 128, (BitVec.ofNat 8 d &&& (0x7F : Octet)).toNat = d ∧
    (BitVec.ofNat 8 d).getLsbD 7 = false := by decide

theorem moreDigit_bits : ∀ d < 128, ((BitVec.ofNat 8 d ||| 0x80) &&& (0x7F : Octet)).toNat = d ∧
    (BitVec.ofNat 8 d ||| (0x80 : Octet)).getLsbD 7 = true := by decide

/-- The octet of the last digit ends the integer (40_integer R131 steps 5 to 8). -/
theorem intDecMore_last {lim : Limits} {cs : Octets} {d n m i : Nat} (hd : d < 128) (hi : i < lim.intEncLenMax)
    (hv : n + d * 2 ^ m ≤ lim.intValueMax) :
    intDecMore lim (BitVec.ofNat 8 d :: cs) n m i = .ok (i + 1, n + d * 2 ^ m) := by
  obtain ⟨hvalue, hbit⟩ := lastDigit_bits d hd
  rw [intDecMore, hvalue, hbit, if_neg (not_le.2 hi)]
  simp only [if_neg (not_lt.2 hv)]
  rfl

/-- The octet of a digit that is not the last adds the digit and goes on (40_integer R131 steps 5 to 8). -/
theorem intDecMore_more {lim : Limits} {cs : Octets} {d n m i : Nat} (hd : d < 128) (hi : i < lim.intEncLenMax)
    (hv : n + d * 2 ^ m ≤ lim.intValueMax) :
    intDecMore lim ((BitVec.ofNat 8 d ||| 0x80) :: cs) n m i =
      intDecMore lim cs (n + d * 2 ^ m) (m + 7) (i + 1) := by
  obtain ⟨hvalue, hbit⟩ := moreDigit_bits d hd
  rw [intDecMore, hvalue, hbit, if_neg (not_le.2 hi)]
  simp only [if_neg (not_lt.2 hv), if_pos]

/-- Peeling the lowest digit off a number leaves the weight of the rest. -/
theorem digit_weight (n r m : Nat) : n + r % 128 * 2 ^ m + r / 128 * 2 ^ (m + 7) = n + r * 2 ^ m := by
  calc n + r % 128 * 2 ^ m + r / 128 * 2 ^ (m + 7)
      = n + (r % 128 + 128 * (r / 128)) * 2 ^ m := by ring
    _ = n + r * 2 ^ m := by rw [Nat.mod_add_div]

/-- The loop of `INT.DEC` adds up the digits that `INT.ENC` writes (40_integer R138). -/
theorem intDecMore_digits7 {lim : Limits} (rest : Octets) {more r n m i : Nat} (hr : r < 2 ^ (7 * (more + 1)))
    (hv : n + r * 2 ^ m ≤ lim.intValueMax) (hi : i + (digits7 more r).length ≤ lim.intEncLenMax) :
    intDecMore lim (digits7 more r ++ rest) n m i = .ok (i + (digits7 more r).length, n + r * 2 ^ m) := by
  induction more generalizing r n m i with
  | zero => exact intDecMore_last (by omega) hi hv
  | succ more ih =>
    by_cases h128 : 128 ≤ r
    · have hdiv : r / 128 < 2 ^ (7 * (more + 1)) :=
        Nat.div_lt_of_lt_mul (by rwa [show 128 = 2 ^ 7 from rfl, ← pow_add, Nat.add_comm 7, ← Nat.mul_succ])
      simp only [digits7, if_pos h128, List.length_cons, List.cons_append] at hi ⊢
      rw [← digit_weight] at hv
      rw [intDecMore_more (by omega) (by omega) (by omega), ih hdiv hv (by omega), digit_weight]
      congr 2
      omega
    · simp only [digits7, if_neg h128, List.length_cons, List.length_nil, List.cons_append] at hi ⊢
      exact intDecMore_last (by omega) hi hv

/-- The digits that `INT.ENC` allows for are enough for the number (40_integer R136). -/
theorem lt_two_pow_digits (r : Nat) : r < 2 ^ (7 * (r.log2 / 7 + 1)) :=
  Nat.lt_log2_self.trans_le (Nat.pow_le_pow_right two_pos (by omega))

/-! ### `INT.DEC` of `INT.ENC` -/

theorem digits7_length_pos (more r : Nat) : 1 ≤ (digits7 more r).length := by
  cases more with
  | zero => exact le_rfl
  | succ more => rw [digits7]; split <;> simp

/-- A value below `prefixMax` is one octet (40_integer R136 step 2). -/
theorem intEnc_short {v width : Nat} (flags : Octet) (h : v < prefixMax width) :
    intEnc v width flags = [flags ||| BitVec.ofNat 8 v] := if_pos h

/-- Any other value sets all the low bits, and its excess follows in digits (40_integer R136 steps 3 to 5). -/
theorem intEnc_long {v width : Nat} (flags : Octet) (h : ¬ v < prefixMax width) :
    intEnc v width flags = (flags ||| BitVec.ofNat 8 (prefixMax width)) ::
      digits7 ((v - prefixMax width).log2 / 7) (v - prefixMax width) := if_neg h

/-- The flag bits do not change how long an integer is. -/
theorem intEnc_length (v width : Nat) (flags flags' : Octet) :
    (intEnc v width flags).length = (intEnc v width flags').length := by
  unfold intEnc; split <;> rfl

/-- `INT.DEC` of `INT.ENC` gives the value and the flag bits back, whatever follows, when the limits admit the value
and the length of its form (40_integer R138). -/
theorem intDec_intEnc {lim : Limits} {v width : Nat} {flags : Octet} (rest : Octets) (hw : width ≤ 8)
    (hflags : flags &&& BitVec.ofNat 8 (prefixMax width) = 0) (hv : v ≤ lim.intValueMax)
    (hlen : (intEnc v width flags).length ≤ max 1 lim.intEncLenMax) :
    intDec lim (intEnc v width flags ++ rest) width = .ok ((intEnc v width flags).length, flags, v) := by
  by_cases hshort : v < prefixMax width
  · have hfits := hshort.trans (prefixMax_lt width)
    rw [intEnc_short flags hshort, List.singleton_append, intDec, prefixValue_or hw hflags hfits,
      flagBits_or hflags hfits, if_pos hshort, if_neg (not_lt.2 hv)]
    rfl
  · have hpos := digits7_length_pos ((v - prefixMax width).log2 / 7) (v - prefixMax width)
    rw [intEnc_long flags hshort, List.length_cons] at hlen
    have hmore := intDecMore_digits7 (lim := lim) rest (n := prefixMax width) (m := 0) (i := 1)
      (lt_two_pow_digits (v - prefixMax width)) (by omega) (by omega)
    rw [intEnc_long flags hshort, List.cons_append, intDec, prefixValue_or hw hflags (prefixMax_lt width),
      flagBits_or hflags (prefixMax_lt width), if_neg (lt_irrefl _), hmore]
    simp only [List.length_cons, Except.ok.injEq, Prod.mk.injEq, true_and]
    omega

theorem admitsInt_iff (lim : Limits) (v width : Nat) : lim.admitsInt v width = true ↔
    v ≤ lim.intValueMax ∧ (intEnc v width 0).length ≤ max 1 lim.intEncLenMax := by
  simp only [Limits.admitsInt, Bool.and_eq_true, decide_eq_true_eq]

/-- An integer that the limits admit decodes from its shortest form under any flag bits. -/
theorem intDec_of_admitsInt {lim : Limits} {v width : Nat} {flags : Octet} (rest : Octets) (hw : width ≤ 8)
    (hflags : flags &&& BitVec.ofNat 8 (prefixMax width) = 0) (hadmits : lim.admitsInt v width = true) :
    intDec lim (intEnc v width flags ++ rest) width = .ok ((intEnc v width flags).length, flags, v) := by
  obtain ⟨hv, hlen⟩ := (admitsInt_iff lim v width).1 hadmits
  exact intDec_intEnc rest hw hflags hv (by rwa [intEnc_length v width flags 0])

/-! ### String literals -/

theorem hFlagOctet_and_prefixMask :
    ∀ huffman, hFlagOctet huffman &&& BitVec.ofNat 8 (prefixMax stringWidth) = 0 := by decide

theorem hFlag_hFlagOctet : ∀ huffman, hFlag (hFlagOctet huffman) = huffman := by decide

theorem admitsString_iff (lim : Limits) (lit : StrLit) : lim.admitsString lit = true ↔
    lit.payload.length ≤ lim.strLenMax ∧ lim.admitsInt lit.payload.length stringWidth = true := by
  simp only [Limits.admitsString, Bool.and_eq_true, decide_eq_true_eq]

/-- A string literal that the limits admit decodes from its octets, whatever follows (30_encoding R97, 41_string
R151). -/
theorem decodeString_encodeString {lim : Limits} {lit : StrLit} (rest : Octets)
    (hadmits : lim.admitsString lit = true) :
    decodeString lim (encodeString lit ++ rest) = .ok (lit, (encodeString lit).length) := by
  obtain ⟨hstr, hint⟩ := (admitsString_iff lim lit).1 hadmits
  have hlen := intDec_of_admitsInt (lit.payload ++ rest) (by decide) (hFlagOctet_and_prefixMask lit.huffman) hint
  rw [encodeString, List.append_assoc, decodeString, hlen]
  simp only [if_neg (not_lt.2 hstr), List.length_append, Nat.add_sub_cancel_left, List.drop_left, List.take_left,
    hFlag_hFlagOctet, if_neg (not_lt.2 (Nat.le_add_right lit.payload.length rest.length))]

theorem stringInstr_of_form {i : Instr} {lit : StrLit} (h : i.form = .string lit) : stringInstr lit = i := by
  cases i <;> cases h <;> rfl

/-! ### Representations -/

theorem literalTypeBits_and_prefixMask :
    ∀ kind, literalTypeBits kind &&& BitVec.ofNat 8 (prefixMax (literalWidth kind)) = 0
  | .incremental => by decide
  | .never => by decide
  | .without => by decide

theorem literalWidth_le : ∀ kind, literalWidth kind ≤ 8
  | .incremental => by decide
  | .never => by decide
  | .without => by decide

theorem literalInstr_of_form {i : Instr} {kind : LiteralKind} {name : NameRef} {value : StrLit}
    (h : i.form = .literal kind name value) : literalInstr kind name value = i := by
  cases i <;> cases h <;> rfl

/-! ### The dispatch on the first octet (30_encoding R91) -/

theorem repKind_indexed_iff : ∀ b : Octet, repKind b = .indexed ↔ b &&& 0x80 = 0x80 := by decide +kernel
theorem repKind_incremental_iff : ∀ b : Octet, repKind b = .literal .incremental ↔ b &&& 0xC0 = 0x40 := by
  decide +kernel
theorem repKind_sizeUpdate_iff : ∀ b : Octet, repKind b = .sizeUpdate ↔ b &&& 0xE0 = 0x20 := by decide +kernel
theorem repKind_without_iff : ∀ b : Octet, repKind b = .literal .without ↔ b &&& 0xF0 = 0x00 := by decide +kernel

/-! ### What the DISP decoder answers for each row -/

theorem decodeRep_of_indexed {lim : Limits} {bs : Octets} {p index : Nat} {pfx : Octet}
    (hkind : bs.head?.map repKind = some .indexed) (hint : intDec lim bs indexedWidth = .ok (p, pfx, index)) :
    decodeRep lim bs = .ok (.indexed index, p) := by
  cases bs with
  | nil => cases hkind
  | cons b tail => simp only [decodeRep, Option.some.inj hkind, hint]

theorem decodeRep_of_sizeUpdate {lim : Limits} {bs : Octets} {p new : Nat} {pfx : Octet}
    (hkind : bs.head?.map repKind = some .sizeUpdate) (hint : intDec lim bs sizeUpdateWidth = .ok (p, pfx, new)) :
    decodeRep lim bs = .ok (.sizeupd new, p) := by
  cases bs with
  | nil => cases hkind
  | cons b tail => simp only [decodeRep, Option.some.inj hkind, hint]

theorem decodeRep_of_literal {lim : Limits} {bs : Octets} {kind : LiteralKind}
    (hkind : bs.head?.map repKind = some (.literal kind)) : decodeRep lim bs = decodeLiteral lim bs kind := by
  cases bs with
  | nil => cases hkind
  | cons b tail => simp only [decodeRep, Option.some.inj hkind]

/-- The dispatch reads the row of an encoding off its first octet, whatever follows. -/
theorem encode_repKind {i : Instr} {kind : RepKind} (rest : Octets) (hi : TableRow.Statement i)
    (hkind : ∀ b, TableRow.headMatches i.form b = true → repKind b = kind) :
    (encode i ++ rest).head?.map repKind = some kind := by
  obtain ⟨b, tail, henc, hhead⟩ := hi
  rw [henc]
  exact congrArg some (hkind b hhead)

theorem encode_repKind_indexed (index : Nat) (rest : Octets) :
    (encode (.indexed index) ++ rest).head?.map repKind = some .indexed :=
  encode_repKind rest (TableRow.indexed index) fun b h => (repKind_indexed_iff b).2 (beq_iff_eq.1 h)

theorem encode_repKind_sizeupd (new : Nat) (rest : Octets) :
    (encode (.sizeupd new) ++ rest).head?.map repKind = some .sizeUpdate :=
  encode_repKind rest (TableRow.sizeupd new) fun b h => (repKind_sizeUpdate_iff b).2 (beq_iff_eq.1 h)

theorem encode_repKind_literal (kind : LiteralKind) (name : NameRef) (value : StrLit) (rest : Octets) :
    (encode (literalInstr kind name value) ++ rest).head?.map repKind = some (.literal kind) := by
  refine encode_repKind rest (TableRow.of_literal kind name value) fun b h => ?_
  cases kind with
  | incremental => exact (repKind_incremental_iff b).2 (beq_iff_eq.1 h)
  | never => exact (repKind_never_iff b).2 (beq_iff_eq.1 h)
  | without => exact (repKind_without_iff b).2 (beq_iff_eq.1 h)

/-! ### A literal's operands -/

theorem encode_literalInstr (kind : LiteralKind) (name : NameRef) (value : StrLit) :
    encode (literalInstr kind name value) = encodeName kind name ++ encodeString value := by
  cases kind <;> rfl

/-- The value literal decodes after any octets before it (45_dispatch R239 step 3). -/
theorem decodeValue_encodeString {lim : Limits} {value : StrLit} (kind : LiteralKind) (name : NameRef)
    (before rest : Octets) (hvalue : lim.admitsString value = true) :
    decodeValue lim (before ++ (encodeString value ++ rest)) kind name before.length =
      .ok (literalInstr kind name value, (before ++ encodeString value).length) := by
  rw [decodeValue, List.drop_left, decodeString_encodeString rest hvalue, List.length_append]

/-- The body of a literal representation decodes from its name operand and its value (45_dispatch R239 steps 1 to 3):
an index that is not 0 is the name, and 0 says that a name literal follows (30_encoding R93). -/
theorem decodeLiteral_encodeName {lim : Limits} {kind : LiteralKind} {name : NameRef} {value : StrLit} (rest : Octets)
    (hwf : name.wf = true) (hname : lim.admitsName kind name = true) (hvalue : lim.admitsString value = true) :
    decodeLiteral lim (encodeName kind name ++ (encodeString value ++ rest)) kind =
      .ok (literalInstr kind name value, (encodeName kind name ++ encodeString value).length) := by
  have hint {v : Nat} (after : Octets) (hv : lim.admitsInt v (literalWidth kind) = true) :=
    intDec_of_admitsInt after (literalWidth_le kind) (literalTypeBits_and_prefixMask kind) hv
  cases name with
  | byIndex index =>
    simp only [NameRef.wf, Bool.and_eq_true, bne_iff_ne] at hwf
    obtain ⟨hne, -⟩ := hwf
    rw [decodeLiteral, encodeName, hint _ hname]
    simp only [if_neg hne]
    exact decodeValue_encodeString kind _ _ rest hvalue
  | literal lit =>
    simp only [Limits.admitsName, Bool.and_eq_true] at hname
    obtain ⟨hzero, hlit⟩ := hname
    have hlitDec := decodeString_encodeString (encodeString value ++ rest) hlit
    have hvalueDec := decodeValue_encodeString kind (.literal lit)
      (intEnc 0 (literalWidth kind) (literalTypeBits kind) ++ encodeString lit) rest hvalue
    rw [List.append_assoc, List.length_append] at hvalueDec
    rw [decodeLiteral, encodeName, List.append_assoc, hint _ hzero]
    simp only [if_pos, List.drop_left, hlitDec]
    exact hvalueDec

/-! ### Decoding of an encoding, form by form -/

theorem eq_indexed_of_form {i : Instr} {index : Nat} (h : i.form = .indexed index) : i = .indexed index := by
  cases i <;> cases h; rfl

theorem eq_sizeupd_of_form {i : Instr} {new : Nat} (h : i.form = .sizeUpdate new) : i = .sizeupd new := by
  cases i <;> cases h; rfl

theorem decodeRep_encode_indexed {lim : Limits} {index : Nat} (rest : Octets)
    (h : lim.admitsInt index indexedWidth = true) :
    decodeRep lim (encode (.indexed index) ++ rest) = .ok (.indexed index, (encode (.indexed index)).length) :=
  decodeRep_of_indexed (encode_repKind_indexed index rest) (intDec_of_admitsInt rest (by decide) (by decide) h)

theorem decodeRep_encode_sizeupd {lim : Limits} {new : Nat} (rest : Octets)
    (h : lim.admitsInt new sizeUpdateWidth = true) :
    decodeRep lim (encode (.sizeupd new) ++ rest) = .ok (.sizeupd new, (encode (.sizeupd new)).length) :=
  decodeRep_of_sizeUpdate (encode_repKind_sizeupd new rest) (intDec_of_admitsInt rest (by decide) (by decide) h)

theorem decodeRep_encode_literal {lim : Limits} {kind : LiteralKind} {name : NameRef} {value : StrLit} (rest : Octets)
    (hwf : name.wf = true) (hname : lim.admitsName kind name = true) (hvalue : lim.admitsString value = true) :
    decodeRep lim (encode (literalInstr kind name value) ++ rest) =
      .ok (literalInstr kind name value, (encode (literalInstr kind name value)).length) := by
  rw [decodeRep_of_literal (encode_repKind_literal kind name value rest), encode_literalInstr, List.append_assoc]
  exact decodeLiteral_encodeName rest hwf hname hvalue

end Sys2Proof.Machine
end

section
/-!
SUPPORT. The HUFF unit on the bits of a payload: the window of packed bits (20_memory R65, 42_huffman R175), the code
table, no code of which begins another (43_huffman_table R203), and the walk, which follows the one code that the window
begins with (R170, R173).
-/

namespace Sys2Proof.Machine

/-! ### The bits of a payload -/

/-- The number that a sequence of bits forms, most significant first, bit by bit. -/
theorem testBit_foldl_bits (f : Nat → Bool) (n i : Nat) :
    ((List.range n).foldl (fun w j => 2 * w + (f j).toNat) 0).testBit i = (decide (i < n) && f (n - 1 - i)) := by
  induction n generalizing i with
  | zero => simp
  | succ n ih =>
    rw [List.range_succ, List.foldl_append, List.foldl_cons, List.foldl_nil, ← Nat.bit_val]
    cases i with
    | zero => simp
    | succ i => rw [Nat.testBit_bit_succ, ih, show n + 1 - 1 - (i + 1) = n - 1 - i by omega]; simp

/-- The window's bits are the payload's, the first one in bit 31 (42_huffman R175). -/
theorem window_testBit (S : Octets) (p i : Nat) :
    (window S p).toNat.testBit i = (decide (i < 32) && bitAt S (p + (31 - i))) := by
  rw [window, BitVec.toNat_ofNat, Nat.testBit_mod_two_pow, testBit_foldl_bits]
  simp

theorem octetOfBits_getLsbD : ∀ b7 b6 b5 b4 b3 b2 b1 b0 : Bool, ∀ k < 8,
    (octetOfBits b7 b6 b5 b4 b3 b2 b1 b0).getLsbD (7 - k) = [b7, b6, b5, b4, b3, b2, b1, b0].getD k false := by
  decide +kernel

theorem bitAt_cons_low (x : Octet) (S : Octets) {q : Nat} (h : q < 8) : bitAt (x :: S) q = x.getLsbD (7 - q) := by
  rw [bitAt, Nat.div_eq_of_lt h, Nat.mod_eq_of_lt h, List.getD_cons_zero]

theorem bitAt_cons_add (x : Octet) (S : Octets) (q : Nat) : bitAt (x :: S) (q + 8) = bitAt S q := by
  rw [bitAt, bitAt, Nat.add_div_right q (by decide), Nat.add_mod_right, List.getD_cons_succ]

theorem exists_eight_of_le_length {bits : List Bool} (h : 8 ≤ bits.length) :
    ∃ b7 b6 b5 b4 b3 b2 b1 b0 more, bits = b7 :: b6 :: b5 :: b4 :: b3 :: b2 :: b1 :: b0 :: more := by
  match bits, h with
  | b7 :: b6 :: b5 :: b4 :: b3 :: b2 :: b1 :: b0 :: more, _ => exact ⟨b7, b6, b5, b4, b3, b2, b1, b0, more, rfl⟩

/-- The bits of packed octets are the bits that were packed, whatever octets follow (20_memory R65, 47_encoder R294
line 5). -/
theorem bitAt_packBits (bits : List Bool) (rest : Octets) {q : Nat} (hwhole : 8 ∣ bits.length)
    (hq : q < bits.length) : bitAt (packBits bits ++ rest) q = bits.getD q false := by
  induction bits using packBits.induct generalizing q with
  | case1 b7 b6 b5 b4 b3 b2 b1 b0 more ih =>
    rw [packBits, List.cons_append]
    simp only [List.length_cons] at hwhole hq
    by_cases h8 : q < 8
    · rw [bitAt_cons_low _ _ h8, octetOfBits_getLsbD _ _ _ _ _ _ _ _ q h8]
      exact (List.getD_append [b7, b6, b5, b4, b3, b2, b1, b0] more false q h8).symm
    · obtain ⟨k, rfl⟩ := Nat.exists_eq_add_of_le' (not_lt.1 h8)
      rw [bitAt_cons_add, ih (by omega) (by omega)]
      rfl
  | case2 bits hshort =>
    obtain ⟨b7, b6, b5, b4, b3, b2, b1, b0, more, rfl⟩ := exists_eight_of_le_length (bits := bits) (by omega)
    exact absurd rfl (hshort b7 b6 b5 b4 b3 b2 b1 b0 more)

theorem padBits_length_dvd (acc : List Bool) : 8 ∣ (padBits acc).length := by
  simp only [padBits, List.length_append, List.length_replicate]
  omega

/-! ### Windows that begin with a code -/

/-- The first bits of a window are a code (42_huffman R170, R175). -/
def WindowBegins (W : BitVec 32) (c : HuffCode) : Prop := W.toNat >>> (32 - c.len) = c.code

/-- Where the payload holds the bits of a code, the window begins with the code. -/
theorem windowBegins_of_bits {S : Octets} {p : Nat} {c : HuffCode} (hlen : c.len ≤ 32) (hcode : c.code < 2 ^ c.len)
    (hbits : ∀ j < c.len, bitAt S (p + j) = c.code.testBit (c.len - 1 - j)) : WindowBegins (window S p) c := by
  refine Nat.eq_of_testBit_eq fun i => ?_
  rw [Nat.testBit_shiftRight, window_testBit]
  by_cases hi : i < c.len
  · rw [show 31 - (32 - c.len + i) = c.len - 1 - i by omega, hbits _ (by omega),
      show c.len - 1 - (c.len - 1 - i) = i by omega]
    simp only [Bool.and_eq_right_iff_imp, decide_eq_true_eq]
    omega
  · have hhigh : c.code.testBit i = false :=
      Nat.testBit_lt_two_pow (hcode.trans_le (Nat.pow_le_pow_right two_pos (not_lt.1 hi)))
    rw [hhigh, decide_eq_false (by omega), Bool.false_and]

theorem codeBits_length (c : HuffCode) : (codeBits c).length = c.len := by simp [codeBits]

theorem codeBits_getD {c : HuffCode} {j : Nat} (h : j < c.len) :
    (codeBits c).getD j false = c.code.testBit (c.len - 1 - j) := by
  simp [codeBits, h]

/-- A code on its own begins the window, whatever octets follow: its padding is never reached (30_encoding R98). -/
theorem windowBegins_encodeCode {sym : Nat} (h : sym < 257) (rest : Octets) :
    WindowBegins (window (encodeCode sym ++ rest) 0) (huffCodeOf sym) := by
  obtain ⟨-, hlen, hcode⟩ := huffCodeOf_bounds h
  refine windowBegins_of_bits (by omega) hcode fun j hj => ?_
  have hj' : j < (codeBits (huffCodeOf sym)).length := by rwa [codeBits_length]
  have hpad : j < (padBits (codeBits (huffCodeOf sym))).length := by
    rw [padBits, List.length_append]
    omega
  rw [encodeCode, Nat.zero_add, bitAt_packBits _ rest (padBits_length_dvd _) hpad, padBits,
    List.getD_append _ _ _ _ hj', codeBits_getD hj]

/-! ### No code begins another -/

/-- Two codes differ within the length of the shorter one, so neither begins the other. -/
def codesDisjoint (c d : HuffCode) : Bool := c.code >>> (c.len - d.len) != d.code >>> (d.len - c.len)

/-- No code begins another, EOS included (43_huffman_table R201, R203). -/
theorem huffCodeTable_disjoint : huffCodeTable.Pairwise fun c d => codesDisjoint c d = true := by decide +kernel

theorem not_codesDisjoint_of_windowBegins {W : BitVec 32} {c d : HuffCode} (hc : c.len ≤ 32) (hd : d.len ≤ 32)
    (hWc : WindowBegins W c) (hWd : WindowBegins W d) : codesDisjoint c d = false := by
  rw [codesDisjoint, ← hWc, ← hWd, ← Nat.shiftRight_add, ← Nat.shiftRight_add, bne_eq_false_iff_eq]
  congr 1
  omega

theorem huffCodeOf_eq_getElem {sym : Nat} (h : sym < huffCodeTable.length) : huffCodeOf sym = huffCodeTable[sym] :=
  List.getD_eq_getElem _ _ h

/-- A window begins with at most one code. -/
theorem windowBegins_unique {W : BitVec 32} {k l : Nat} (hk : k < 257) (hl : l < 257)
    (hWk : WindowBegins W (huffCodeOf k)) (hWl : WindowBegins W (huffCodeOf l)) : k = l := by
  have hnot {a b : Nat} (ha : a < 257) (hb : b < 257) (hWa : WindowBegins W (huffCodeOf a))
      (hWb : WindowBegins W (huffCodeOf b)) : ¬ a < b := by
    intro hab
    obtain ⟨-, hla, -⟩ := huffCodeOf_bounds ha
    obtain ⟨-, hlb, -⟩ := huffCodeOf_bounds hb
    have hsame := not_codesDisjoint_of_windowBegins (by omega) (by omega) hWa hWb
    rw [← huffCodeTable_length] at ha hb
    rw [huffCodeOf_eq_getElem ha, huffCodeOf_eq_getElem hb,
      List.pairwise_iff_getElem.1 huffCodeTable_disjoint a b ha hb hab] at hsame
    cases hsame
  have hkl := hnot hk hl hWk hWl
  have hlk := hnot hl hk hWl hWk
  omega

/-! ### The walk follows the window -/

/-- The node that the first `d` octets of a window lead to (42_huffman R170). -/
def windowNode (W : BitVec 32) (d : Nat) : TrieNode := ⟨d, W.toNat >>> (32 - 8 * d)⟩

theorem windowNode_zero (W : BitVec 32) : windowNode W 0 = trieRoot := by
  have h : W.toNat >>> 32 = 0 := by rw [Nat.shiftRight_eq_div_pow, Nat.div_eq_of_lt W.isLt]
  simp only [windowNode, trieRoot, Nat.mul_zero, Nat.sub_zero, h]

/-- The leading octets of the node and the octet of the stride are the first `d + 1` octets of the window. -/
theorem windowNode_word (W : BitVec 32) {d : Nat} (hd : d < 4) :
    (windowNode W d).leading * 256 + windowOctet W (8 * d) = W.toNat >>> (32 - 8 * (d + 1)) := by
  have hstep : W.toNat >>> (32 - 8 * d) = W.toNat >>> (32 - 8 * (d + 1)) / 256 := by
    rw [show 32 - 8 * d = 32 - 8 * (d + 1) + 8 by omega, Nat.shiftRight_add, Nat.shiftRight_eq_div_pow _ 8]
  have hoctet : windowOctet W (8 * d) = W.toNat >>> (32 - 8 * (d + 1)) % 256 := by
    rw [windowOctet, BitVec.extractLsb'_toNat, show 24 - 8 * d = 32 - 8 * (d + 1) by omega]
  rw [show (windowNode W d).leading = _ from hstep, hoctet]
  exact Nat.div_add_mod' _ _

/-- The codes that end in a stride of the window are those it begins with, of the lengths of that stride (42_huffman
R173 (b)). -/
theorem codeEndsIn_window_iff (W : BitVec 32) {d : Nat} (hd : d < 4) (c : HuffCode) :
    codeEndsIn (8 * d) (W.toNat >>> (32 - 8 * (d + 1))) c = true ↔
      8 * d < c.len ∧ c.len ≤ 8 * d + 8 ∧ WindowBegins W c := by
  simp only [codeEndsIn, Bool.and_eq_true, decide_eq_true_eq, beq_iff_eq, and_assoc]
  refine and_congr_right fun _ => and_congr_right fun hle => ?_
  rw [WindowBegins, ← Nat.shiftRight_add, show 32 - 8 * (d + 1) + (8 * d + 8 - c.len) = 32 - c.len by omega]

/-- A code that the window begins with and that is longer goes through the stride (42_huffman R166). -/
theorem codeGoesThrough_window {W : BitVec 32} {d : Nat} {c : HuffCode} (hc : c.len ≤ 32) (hlong : 8 * d + 8 < c.len)
    (hW : WindowBegins W c) : codeGoesThrough (8 * d) (W.toNat >>> (32 - 8 * (d + 1))) c = true := by
  rw [codeGoesThrough, decide_eq_true hlong, Bool.true_and, beq_iff_eq, ← hW, ← Nat.shiftRight_add]
  congr 1
  omega

theorem trieRows_getElem {k : Nat} (h : k < trieRows.length) : trieRows[k] = huffCodeOf k := by
  rw [trieRows_length] at h
  rw [huffCodeOf_eq_getElem (by rw [huffCodeTable_length]; omega)]
  exact List.getElem_take

theorem mem_trieRows {sym : Nat} (h : sym < 256) : huffCodeOf sym ∈ trieRows := by
  rw [← trieRows_length] at h
  exact trieRows_getElem h ▸ List.getElem_mem h

/-- The slot of the stride in which the code of the window ends is its leaf. -/
theorem slotAt_window_leaf {W : BitVec 32} {d sym : Nat} (hd : d < 4) (hsym : sym < 256)
    (hlow : 8 * d < (huffCodeOf sym).len) (hhigh : (huffCodeOf sym).len ≤ 8 * d + 8)
    (hW : WindowBegins W (huffCodeOf sym)) :
    slotAt (windowNode W d) (windowOctet W (8 * d)) = .leaf sym (huffCodeOf sym).len := by
  have hfind : trieRows.findIdx? (codeEndsIn (8 * d) (W.toNat >>> (32 - 8 * (d + 1)))) = some sym := by
    rw [List.findIdx?_eq_some_iff_getElem]
    refine ⟨by rwa [trieRows_length], ?_, fun k hk hends => ?_⟩
    · rw [trieRows_getElem, codeEndsIn_window_iff W hd]
      exact ⟨hlow, hhigh, hW⟩
    · rw [trieRows_getElem, codeEndsIn_window_iff W hd] at hends
      obtain ⟨-, -, hWk⟩ := hends
      exact hk.ne (windowBegins_unique (by omega) (by omega) hWk hW)
  simp only [slotAt, windowNode_word W hd]
  simp only [windowNode, hfind]

/-- Where no code that the window begins with ends within the stride, the slot is the child along the window or
empty. -/
theorem slotAt_window_of_longer {W : BitVec 32} {d : Nat} (hd : d < 4)
    (hlong : ∀ k < 256, WindowBegins W (huffCodeOf k) → 8 * d + 8 < (huffCodeOf k).len) :
    slotAt (windowNode W d) (windowOctet W (8 * d)) =
      if trieRows.any (codeGoesThrough (8 * d) (W.toNat >>> (32 - 8 * (d + 1)))) then .child (windowNode W (d + 1))
      else .empty := by
  have hfind : trieRows.findIdx? (codeEndsIn (8 * d) (W.toNat >>> (32 - 8 * (d + 1)))) = none := by
    rw [List.findIdx?_eq_none_iff]
    intro c hc
    obtain ⟨k, hk, rfl⟩ := List.getElem_of_mem hc
    rw [trieRows_getElem, Bool.eq_false_iff]
    intro hends
    obtain ⟨-, hle, hWk⟩ := (codeEndsIn_window_iff W hd _).1 hends
    rw [trieRows_length] at hk
    exact absurd hle (not_le.2 (hlong k hk hWk))
  simp only [slotAt, windowNode_word W hd]
  simp only [windowNode, hfind]
  rfl

/-- The slot of a stride before the one in which the code of the window ends is the child along the window. -/
theorem slotAt_window_child {W : BitVec 32} {d sym : Nat} (hd : d < 4) (hsym : sym < 256)
    (hlong : 8 * d + 8 < (huffCodeOf sym).len) (hW : WindowBegins W (huffCodeOf sym)) :
    slotAt (windowNode W d) (windowOctet W (8 * d)) = .child (windowNode W (d + 1)) := by
  obtain ⟨-, hlen, -⟩ := huffCodeOf_bounds (show sym < 257 by omega)
  rw [slotAt_window_of_longer hd, if_pos]
  · exact List.any_eq_true.2 ⟨_, mem_trieRows hsym, codeGoesThrough_window (by omega) hlong hW⟩
  · intro k hk hWk
    rwa [windowBegins_unique (by omega) (by omega) hWk hW]

theorem walk_eq_walkFrom (W : BitVec 32) : walk W = walkFrom W (List.range' (8 * 0) 4 8) (windowNode W 0) := by
  rw [windowNode_zero]
  rfl

theorem walkFrom_window_leaf {W : BitVec 32} {sym : Nat} (hsym : sym < 256) (hW : WindowBegins W (huffCodeOf sym))
    (n : Nat) {d : Nat} (hn : d + n = 4) (hlow : 8 * d < (huffCodeOf sym).len) :
    walkFrom W (List.range' (8 * d) n 8) (windowNode W d) = .leaf sym (huffCodeOf sym).len := by
  obtain ⟨-, hlen, -⟩ := huffCodeOf_bounds (show sym < 257 by omega)
  induction n generalizing d with
  | zero => omega
  | succ n ih =>
    rw [List.range'_succ, walkFrom]
    by_cases hhigh : (huffCodeOf sym).len ≤ 8 * d + 8
    · rw [slotAt_window_leaf (by omega) hsym hlow hhigh hW]
    · rw [slotAt_window_child (by omega) hsym (by omega) hW]
      exact ih (d := d + 1) (by omega) (by omega)

/-- The walk of a window that begins with a code ends in its leaf (42_huffman R170, R173). -/
theorem walk_of_windowBegins {W : BitVec 32} {sym : Nat} (hsym : sym < 256)
    (hW : WindowBegins W (huffCodeOf sym)) : walk W = .leaf sym (huffCodeOf sym).len := by
  obtain ⟨hlen, -, -⟩ := huffCodeOf_bounds (show sym < 257 by omega)
  rw [walk_eq_walkFrom]
  exact walkFrom_window_leaf hsym hW 4 rfl (by omega)

/-- No code goes through the last stride: none is longer than the window (10_state R34). -/
theorem any_codeGoesThrough_last (w : Nat) : trieRows.any (codeGoesThrough (8 * 3) w) = false := by
  rw [List.any_eq_false]
  intro c hc hthrough
  obtain ⟨-, hlen, -⟩ := huffCodeTable_bounds c (List.mem_of_mem_take hc)
  simp only [codeGoesThrough, Bool.and_eq_true, decide_eq_true_eq] at hthrough
  omega

theorem walkFrom_window_empty {W : BitVec 32} (hW : ∀ k < 256, ¬ WindowBegins W (huffCodeOf k)) (n : Nat) {d : Nat}
    (hn : d + n + 1 = 4) : walkFrom W (List.range' (8 * d) (n + 1) 8) (windowNode W d) = .empty := by
  have hslot {d : Nat} (hd : d < 4) := slotAt_window_of_longer hd fun k hk hWk => absurd hWk (hW k hk)
  induction n generalizing d with
  | zero =>
    obtain rfl : d = 3 := by omega
    rw [List.range'_succ, walkFrom, hslot (by omega), any_codeGoesThrough_last]
    rfl
  | succ n ih =>
    rw [List.range'_succ, walkFrom, hslot (by omega)]
    split
    · rfl
    · rename_i hleaf
      split at hleaf <;> cases hleaf
    · rename_i hchild
      split at hchild
      · cases hchild
        exact ih (d := d + 1) (by omega)
      · cases hchild

/-- The walk of a window that begins with no code of a symbol ends in an empty slot (42_huffman R173 (c)). -/
theorem walk_of_no_code {W : BitVec 32} (hW : ∀ k < 256, ¬ WindowBegins W (huffCodeOf k)) : walk W = .empty := by
  rw [walk_eq_walkFrom]
  exact walkFrom_window_empty hW 3 rfl

/-- The walk of a window that begins with the code EOS ends in an empty slot (42_huffman R174). -/
theorem walk_of_windowBegins_eos {W : BitVec 32} (hW : WindowBegins W (huffCodeOf eosSymbol)) : walk W = .empty :=
  walk_of_no_code fun _ hk hWk => hk.ne (windowBegins_unique (by omega) (by decide) hWk hW)

/-! ### Huffman rows -/

theorem huffInstr_of_form {i : Instr} {sym : Nat} (h : i.form = .code sym) : sym < 257 ∧ huffInstr sym = i := by
  cases i <;> cases h <;> exact ⟨by decide, rfl⟩

/-- The HUFF unit reads the row whose code the window begins with (42_huffman R176 lines 3 to 9, R174). -/
theorem decodeCode_of_windowBegins {i : Instr} {sym : Nat} {S : Octets} {p : Nat} (hi : i.form = .code sym)
    (hW : WindowBegins (window S p) (huffCodeOf sym)) : decodeCode S p = .ok i := by
  obtain ⟨hsym, rfl⟩ := huffInstr_of_form hi
  by_cases heos : sym = eosSymbol
  · subst heos
    rw [decodeCode, walk_of_windowBegins_eos hW]
    rfl
  · rw [decodeCode, walk_of_windowBegins (by simp only [eosSymbol] at heos; omega) hW]

end Sys2Proof.Machine
end

section
/-!
SUPPORT. The statements about the encoding: the dispatch and sample words (30_encoding R91, R99), and that decoding
undoes encoding for every row (R90, R93, R95, R97, R98, 43_huffman_table R201).
-/

namespace Sys2Proof.Machine

theorem form_of_unit_string {i : Instr} (h : i.unit = .string) : ∃ lit, i.form = .string lit := by
  cases hform : i.form with
  | string lit => exact ⟨lit, rfl⟩
  | indexed _ | literal _ _ _ | sizeUpdate _ | code _ => simp only [Instr.unit, hform, reduceCtorEq] at h

theorem form_of_unit_huffman {i : Instr} (h : i.unit = .huffman) : ∃ sym, i.form = .code sym := by
  cases hform : i.form with
  | code sym => exact ⟨sym, rfl⟩
  | indexed _ | literal _ _ _ | sizeUpdate _ | string _ => simp only [Instr.unit, hform, reduceCtorEq] at h

theorem decodeStr_encode {lim : Limits} {i : Instr} {lit : StrLit} (rest : Octets) (hi : i.form = .string lit)
    (hadmits : lim.admitsString lit = true) : decodeStr lim (encode i ++ rest) = .ok (i, (encode i).length) := by
  rw [decodeStr, encode, hi]
  simp only [decodeString_encodeString rest hadmits, stringInstr_of_form hi]

/-- Settles O6, word by word, by running the decoders. -/
theorem sampleWordsDecode : Obligations.SampleWordsDecode := by
  unfold Obligations.SampleWordsDecode
  refine ⟨?_, ?_, ?_, ?_, ?_, ?_, ?_, ?_, ?_, ?_, ?_, ?_⟩ <;> decide +kernel

/-- Settles O7: the five masks, each on all octets. -/
theorem firstOctetSelectsItsRow : Obligations.FirstOctetSelectsItsRow := by
  unfold Obligations.FirstOctetSelectsItsRow
  exact fun b => ⟨repKind_indexed_iff b, repKind_incremental_iff b, repKind_sizeUpdate_iff b, repKind_never_iff b,
    repKind_without_iff b⟩

/-- Settles O56, form by form: the first octet selects the row, and each operand decodes from its octets. -/
theorem representationDecodeEncode : Obligations.RepresentationDecodeEncode := by
  unfold Obligations.RepresentationDecodeEncode
  intro lim i rest hunit hwf hadmits
  cases hform : i.form with
  | indexed index =>
    obtain rfl := eq_indexed_of_form hform
    exact decodeRep_encode_indexed rest hadmits
  | literal kind name value =>
    simp only [Instr.wf, hform, Bool.and_eq_true] at hwf
    simp only [Limits.admits, hform, Bool.and_eq_true] at hadmits
    obtain ⟨hnameWf, -⟩ := hwf
    obtain ⟨hname, hvalue⟩ := hadmits
    rw [← literalInstr_of_form hform]
    exact decodeRep_encode_literal rest hnameWf hname hvalue
  | sizeUpdate new =>
    obtain rfl := eq_sizeupd_of_form hform
    exact decodeRep_encode_sizeupd rest hadmits
  | string _ | code _ => simp only [Instr.unit, hform, reduceCtorEq] at hunit

/-- Settles O57: a string literal decodes from its length and its payload; a Huffman row, because its code begins the
window and no other code does. -/
theorem stringAndCodeDecodeEncode : Obligations.StringAndCodeDecodeEncode := by
  unfold Obligations.StringAndCodeDecodeEncode
  refine ⟨fun lim i rest hunit _ hadmits => ?_, fun i rest hunit => ?_⟩
  · obtain ⟨lit, hform⟩ := form_of_unit_string hunit
    rw [Limits.admits, hform] at hadmits
    exact decodeStr_encode rest hform hadmits
  · obtain ⟨sym, hform⟩ := form_of_unit_huffman hunit
    obtain ⟨hsym, -⟩ := huffInstr_of_form hform
    rw [encode, hform]
    exact decodeCode_of_windowBegins hform (windowBegins_encodeCode hsym rest)

end Sys2Proof.Machine
end

section
/-!
SUPPORT. The INT unit octet by octet (40_integer R131, R132): the loop of `INT.DEC` as a function of how many octets it
has read, the values that `intPartial` reads off the octets, and the length of the octets of `INT.ENC` (R136).
-/

namespace Sys2Proof.Machine

/-! ### The bits of an octet as numbers -/

/-- The low bits of an octet are its residue (40_integer R131 step 3). -/
theorem prefixValue_eq_mod (b : Octet) {width : Nat} (hw : width ≤ 8) : prefixValue b width = b.toNat % 2 ^ width := by
  have hmask : prefixMax width < 2 ^ 8 := (prefixMax_lt width).trans_le (Nat.pow_le_pow_right two_pos hw)
  rw [prefixValue, BitVec.toNat_and, BitVec.toNat_ofNat, Nat.mod_eq_of_lt hmask, prefixMax,
    Nat.and_two_pow_sub_one_eq_mod]

/-- The digit of an octet is its low seven bits (40_integer R131 step 5). -/
theorem digit_eq_mod (c : Octet) : (c &&& 0x7F).toNat = c.toNat % 128 :=
  prefixValue_eq_mod c (width := 7) (by decide)

/-- Clearing the low bits of an octet takes their value away from it (40_integer R131 step 3). -/
theorem flagBits_eq_sub_mod (b : Octet) (width : Nat) :
    flagBits b width = BitVec.ofNat 8 (b.toNat - b.toNat % 2 ^ width) := by
  have hmultiple : b.toNat - b.toNat % 2 ^ width = 2 ^ width * (b.toNat / 2 ^ width) := by
    have := Nat.mod_add_div b.toNat (2 ^ width)
    omega
  refine BitVec.eq_of_getLsbD_eq fun i hi => ?_
  rw [flagBits, prefixMax, hmultiple, BitVec.getLsbD_and, BitVec.getLsbD_not, BitVec.getLsbD_ofNat,
    BitVec.getLsbD_ofNat, Nat.testBit_two_pow_sub_one, Nat.testBit_two_pow_mul, Nat.testBit_div_two_pow]
  by_cases hlow : i < width
  · simp [hi, hlow]
  · simp [hi, not_lt.1 hlow, BitVec.getLsbD]

/-! ### The value of the octets read so far -/

theorem intPartial_zero (b : Octet) (rest : Octets) {width : Nat} (hw : width ≤ 8) :
    intPartial (b :: rest) width 0 = prefixValue b width := by
  rw [prefixValue_eq_mod b hw]
  rfl

theorem intPartial_succ (bs : Octets) (width count : Nat) :
    intPartial bs width (count + 1) =
      intPartial bs width count + (bs.getD (count + 1) 0 &&& 0x7F).toNat * 2 ^ (7 * count) := by
  rw [digit_eq_mod, intPartial, intPartial, List.range_succ, List.map_append, List.sum_append, List.map_singleton,
    List.sum_singleton, Nat.add_assoc]

/-! ### The loop of `INT.DEC` by the number of octets read -/

/-- The loop of `INT.DEC` when it has read `count` octets after the first (40_integer R131 step 5). -/
def intDecFrom (lim : Limits) (bs : Octets) (width count : Nat) : Except ErrCode (Nat × Nat) :=
  intDecMore lim (bs.drop (count + 1)) (intPartial bs width count) (7 * count) (count + 1)

/-- One turn of the loop, its tests in the order of 40_integer R132. -/
theorem intDecFrom_eq (lim : Limits) (bs : Octets) (width count : Nat) :
    intDecFrom lim bs width count =
      if lim.intEncLenMax ≤ count + 1 then .error .integerEncodedLengthTooLong
      else if bs.length ≤ count + 1 then .error .truncated
      else if lim.intValueMax < intPartial bs width (count + 1) then .error .integerValueTooLarge
      else if (bs.getD (count + 1) 0).getLsbD 7 then intDecFrom lim bs width (count + 1)
      else .ok (count + 2, intPartial bs width (count + 1)) := by
  rw [intDecFrom]
  by_cases hend : bs.length ≤ count + 1
  · rw [List.drop_eq_nil_of_le hend, intDecMore, if_pos hend]
  · have hlt := not_le.1 hend
    rw [List.drop_eq_getElem_cons hlt, intDecMore, if_neg hend, intPartial_succ, intDecFrom, intPartial_succ,
      List.getD_eq_getElem bs 0 hlt]
    rfl

/-- Octet `i` after the first passes every test of the loop and is not the last (40_integer R131 steps 5 to 7). -/
def ReadsOn (lim : Limits) (bs : Octets) (width i : Nat) : Prop :=
  i < lim.intEncLenMax ∧ i < bs.length ∧ intPartial bs width i ≤ lim.intValueMax ∧ (bs.getD i 0).getLsbD 7 = true

theorem intDecFrom_of_readsOn {lim : Limits} {bs : Octets} {width count : Nat}
    (h : ReadsOn lim bs width (count + 1)) :
    intDecFrom lim bs width count = intDecFrom lim bs width (count + 1) := by
  obtain ⟨hlen, hend, hvalue, hbit⟩ := h
  rw [intDecFrom_eq, if_neg (not_le.2 hlen), if_neg (not_le.2 hend), if_neg (not_lt.2 hvalue), if_pos hbit]

/-- The loop comes to the octet after those that are read and are not the last. -/
theorem intDecFrom_of_forall_readsOn {lim : Limits} {bs : Octets} {width count : Nat}
    (h : ∀ j, 1 ≤ j → j < count + 1 → ReadsOn lim bs width j) :
    intDecFrom lim bs width 0 = intDecFrom lim bs width count := by
  induction count with
  | zero => rfl
  | succ count ih =>
    rw [ih fun j hj hlt => h j hj (by omega), intDecFrom_of_readsOn (h (count + 1) (by omega) (by omega))]

/-- What is so of an integer of `k` octets and value `v` that the loop answers after it has read `count` octets. -/
structure IntEnds (lim : Limits) (bs : Octets) (width count k v : Nat) : Prop where
  lt_octets : count + 1 < k
  octets_le_length : k ≤ bs.length
  octets_le_limit : k ≤ lim.intEncLenMax
  value_eq : v = intPartial bs width (k - 1)
  value_le : v ≤ lim.intValueMax
  more_bits : ∀ j, count < j → j + 1 < k → (bs.getD j 0).getLsbD 7 = true
  last_bit : (bs.getD (k - 1) 0).getLsbD 7 = false

/-- An octet that passes the tests and has bit 7 clear ends the integer. -/
theorem intEnds_of_last {lim : Limits} {bs : Octets} {width count : Nat} (hlen : count + 1 < lim.intEncLenMax)
    (hend : count + 1 < bs.length) (hvalue : intPartial bs width (count + 1) ≤ lim.intValueMax)
    (hbit : (bs.getD (count + 1) 0).getLsbD 7 = false) :
    IntEnds lim bs width count (count + 2) (intPartial bs width (count + 1)) where
  lt_octets := by omega
  octets_le_length := hend
  octets_le_limit := hlen
  value_eq := rfl
  value_le := hvalue
  more_bits := by omega
  last_bit := hbit

/-- An integer that ends later has one more octet with bit 7 set in front. -/
theorem IntEnds.of_succ {lim : Limits} {bs : Octets} {width count k v : Nat}
    (h : IntEnds lim bs width (count + 1) k v) (hbit : (bs.getD (count + 1) 0).getLsbD 7 = true) :
    IntEnds lim bs width count k v where
  __ := h
  lt_octets := by have := h.lt_octets; omega
  more_bits j hj hlt := by
    obtain rfl | hlater : j = count + 1 ∨ count + 1 < j := by omega
    · exact hbit
    · exact h.more_bits j hlater hlt

/-- All that the loop can answer when it decodes (40_integer R131, R132). -/
theorem intDecFrom_ok {lim : Limits} {bs : Octets} {width count k v : Nat}
    (h : intDecFrom lim bs width count = .ok (k, v)) : IntEnds lim bs width count k v := by
  induction hleft : bs.length - count generalizing count with
  | zero =>
    rw [intDecFrom_eq, if_pos (show bs.length ≤ count + 1 by omega)] at h
    split at h <;> cases h
  | succ left ih =>
    rw [intDecFrom_eq] at h
    split at h
    · cases h
    split at h
    · cases h
    split at h
    · cases h
    split at h
    next hbit => exact (ih h (by omega)).of_succ hbit
    next hlen hend hvalue hbit =>
      cases h
      exact intEnds_of_last (not_le.1 hlen) (not_le.1 hend) (not_lt.1 hvalue) (Bool.eq_false_iff.2 hbit)

/-! ### `INT.DEC` by the low bits of the first octet -/

/-- Low bits that are not all ones are the whole integer (40_integer R131 step 4). -/
theorem intDec_short {lim : Limits} {b : Octet} {rest : Octets} {width : Nat} (hw : width ≤ 8)
    (h : intPartial (b :: rest) width 0 < prefixMax width) :
    intDec lim (b :: rest) width =
      if lim.intValueMax < intPartial (b :: rest) width 0 then .error .integerValueTooLarge
      else .ok (1, flagBits b width, intPartial (b :: rest) width 0) := by
  rw [intPartial_zero b rest hw] at h ⊢
  exact if_pos h

/-- Low bits that are all ones are followed by digits (40_integer R131 step 5). -/
theorem intDec_long {lim : Limits} {b : Octet} {rest : Octets} {width : Nat} (hw : width ≤ 8)
    (h : ¬ intPartial (b :: rest) width 0 < prefixMax width) :
    intDec lim (b :: rest) width =
      (intDecFrom lim (b :: rest) width 0).map fun r => (r.1, flagBits b width, r.2) := by
  rw [intDecFrom, intPartial_zero b rest hw, List.drop_succ_cons, List.drop_zero]
  rw [intPartial_zero b rest hw] at h
  rw [intDec, if_neg h]
  cases intDecMore lim rest (prefixValue b width) 0 1 <;> rfl

/-- After octets that are read and are not the last, `INT.DEC` is the loop at the next one. -/
theorem intDec_of_forall_readsOn {lim : Limits} {b : Octet} {rest : Octets} {width count : Nat} (hw : width ≤ 8)
    (hprefix : intPartial (b :: rest) width 0 = prefixMax width)
    (h : ∀ j, 1 ≤ j → j < count + 1 → ReadsOn lim (b :: rest) width j) :
    intDec lim (b :: rest) width =
      (intDecFrom lim (b :: rest) width count).map fun r => (r.1, flagBits b width, r.2) := by
  rw [intDec_long hw hprefix.not_lt, intDecFrom_of_forall_readsOn h]

/-- An integer that is answered is the low bits of its first octet, or ends where the loop ends it (40_integer R131). -/
theorem intDec_ok_cases {lim : Limits} {b : Octet} {rest : Octets} {width k v : Nat} {pfx : Octet} (hw : width ≤ 8)
    (h : intDec lim (b :: rest) width = .ok (k, pfx, v)) :
    pfx = flagBits b width ∧
      (k = 1 ∧ v = intPartial (b :: rest) width 0 ∧ v ≤ lim.intValueMax ∨ IntEnds lim (b :: rest) width 0 k v) := by
  by_cases hshort : intPartial (b :: rest) width 0 < prefixMax width
  · rw [intDec_short hw hshort] at h
    split at h
    · cases h
    next hvalue =>
      cases h
      exact ⟨rfl, .inl ⟨rfl, rfl, not_lt.1 hvalue⟩⟩
  · rw [intDec_long hw hshort] at h
    cases hloop : intDecFrom lim (b :: rest) width 0 with
    | error e => rw [hloop] at h; cases h
    | ok r =>
      rw [hloop] at h
      cases h
      exact ⟨rfl, .inr (intDecFrom_ok hloop)⟩

/-! ### How many octets `INT.ENC` writes -/

theorem digits7_length_le {more r count : Nat} (hr : r < 2 ^ (7 * (count + 1))) :
    (digits7 more r).length ≤ count + 1 := by
  induction more generalizing r count with
  | zero => simp [digits7]
  | succ more ih =>
    rw [digits7]
    split
    next h128 =>
      cases count with
      | zero => omega
      | succ count =>
        have hdiv : r / 128 < 2 ^ (7 * (count + 1)) := Nat.div_lt_of_lt_mul (hr.trans_eq (by ring))
        exact Nat.succ_le_succ (ih hdiv)
    next => simp

/-- A value of 32 bits takes the first octet and at most five digits (40_integer R138). -/
theorem intEnc_length_le_six {v : Nat} (width : Nat) (flags : Octet) (hv : v ≤ 2 ^ 32 - 1) :
    (intEnc v width flags).length ≤ 6 := by
  by_cases hshort : v < prefixMax width
  · simp [intEnc_short flags hshort]
  · rw [intEnc_long flags hshort, List.length_cons]
    exact Nat.succ_le_succ (digits7_length_le (count := 4) (by omega))

/-! ### The statements -/

/-- Settles O38: the clauses before the last are one turn of the loop after those before it; the last is what the loop
can answer. -/
theorem intDecAccumulatesBase128Digits : Obligations.IntDecAccumulatesBase128Digits := by
  unfold Obligations.IntDecAccumulatesBase128Digits
  intro lim bs width _ hw flags
  cases bs with
  | nil => exact ⟨fun _ => rfl, fun h => absurd rfl h, fun _ h => absurd rfl h, fun _ _ _ h => nomatch h⟩
  | cons b rest =>
    have hflags : flags = flagBits b width := (flagBits_eq_sub_mod b width).symm
    rw [hflags]
    refine ⟨fun h => absurd h (List.cons_ne_nil b rest), fun _ hshort => ?_, fun i _ hprefix hi hread => ?_,
      fun k v pfx h => ?_⟩
    · rw [intDec_short hw hshort]
      exact ⟨fun hvalue => if_pos hvalue, fun hvalue => if_neg (not_lt.2 hvalue)⟩
    · obtain ⟨count, rfl⟩ : ∃ count, i = count + 1 := ⟨i - 1, by omega⟩
      rw [intDec_of_forall_readsOn hw hprefix hread, intDecFrom_eq]
      refine ⟨fun hlen => ?_, fun hlen hend => ?_, fun hlen hend hvalue => ?_, fun hlen hend hvalue hbit => ?_⟩
      · rw [if_pos hlen]; rfl
      · rw [if_neg (not_le.2 hlen), if_pos hend]; rfl
      · rw [if_neg (not_le.2 hlen), if_neg (not_le.2 hend), if_pos hvalue]; rfl
      · rw [if_neg (not_le.2 hlen), if_neg (not_le.2 hend), if_neg (not_lt.2 hvalue), hbit]; rfl
    · obtain ⟨hpfx, ⟨rfl, hv, hvalue⟩ | hends⟩ := intDec_ok_cases hw h
      · exact ⟨le_rfl, by simp, le_max_left _ _, hpfx, hv, hvalue, by omega, by omega⟩
      · exact ⟨by have := hends.lt_octets; omega, hends.octets_le_length, le_max_of_le_right hends.octets_le_limit, hpfx,
          hends.value_eq, hends.value_le, fun j hj => hends.more_bits j hj, fun _ => hends.last_bit⟩

/-- Settles O39, from the round trip of the digits and the number of digits of a 32-bit value. -/
theorem integerRoundTrip : Obligations.IntegerRoundTrip := by
  unfold Obligations.IntegerRoundTrip
  exact ⟨fun _ _ _ _ rest _ hw hflags hv hlen => intDec_intEnc rest hw hflags hv hlen,
    fun _ width flags _ _ hv => intEnc_length_le_six width flags hv⟩

end Sys2Proof.Machine
end

section
/-!
SUPPORT. The statements about the STR unit on its own, and that a step of the STR unit or of the HUFF unit executes the
row its decoder reads (41_string R150, R151, 42_huffman R176).
-/

namespace Sys2Proof.Machine

/-! ### The result of a string literal -/

@[simp] theorem literalText_raw (payload : Octets) : literalText ⟨false, payload⟩ = .ok payload := rfl
@[simp] theorem literalText_huff (payload : Octets) : literalText ⟨true, payload⟩ = huffDec payload := rfl

theorem exec_strRaw (payload : Octets) (s : State) : exec (.strRaw payload) s = stringBody ⟨false, payload⟩ s :=
  exec_stringInstr ⟨false, payload⟩ s

theorem exec_strHuff (payload : Octets) (s : State) : exec (.strHuff payload) s = stringBody ⟨true, payload⟩ s :=
  exec_stringInstr ⟨true, payload⟩ s

/-- A literal with a text delivers it with the offset of the unit (41_string R151 step 7). -/
theorem stringBody_of_text {lit : StrLit} {s : State} {p : Nat} {text : Octets} (hact : s.activity = .string p)
    (htext : literalText lit = .ok text) : stringBody lit s = .next (s.answer (.string p text)) := by
  rw [stringBody, htext, State.stringOffset_eq hact]

/-- A literal whose Huffman decoding fails delivers the error (41_string R152). -/
theorem stringBody_of_error {lit : StrLit} {s : State} {e : ErrCode} (herror : literalText lit = .error e) :
    stringBody lit s = .next (s.primitiveError e) := by
  rw [stringBody, herror]

/-! ### What the two units fetch -/

theorem fetchString_of_decodeStr {s : State} {p n : Nat} {i : Instr}
    (hdecode : decodeStr s.limits (s.octetsFrom p) = .ok (i, n)) :
    fetchString s p = .run i { s with activity := .string (p + n) } := by
  rw [fetchString, hdecode]

theorem fetchCode_of_decodeCode {s : State} {r : HuffRegs} {i : Instr}
    (hbits : 5 ≤ 8 * r.payload.length - r.bitpos) (hdecode : decodeCode r.payload r.bitpos = .ok i) :
    fetchCode s r = .run i s := by
  rcases fetchCode_cases s r with ⟨hend, _⟩ | ⟨j, _, hrow, hfetch⟩ | ⟨e, _, hnone, _⟩
  · omega
  · cases hrow.symm.trans hdecode
    exact hfetch
  · cases hnone.symm.trans hdecode

theorem step_of_fetch_run {s t : State} {i : Instr} (hfetch : fetch s = .run i t) : step s = exec i t := by
  rw [step, hfetch]

/-! ### The statements -/

/-- Settles O4: what each unit fetches is the row its decoder reads. -/
theorem stepRunsTheDecodedStringOrCode : Obligations.StepRunsTheDecodedStringOrCode := by
  unfold Obligations.StepRunsTheDecodedStringOrCode
  refine ⟨fun s p i n hact hdecode => step_of_fetch_run ?_, fun s r i hact hbits hdecode => step_of_fetch_run ?_⟩
  · rw [fetch, hact]
    exact fetchString_of_decodeStr hdecode
  · rw [fetch, hact]
    exact fetchCode_of_decodeCode hbits hdecode

/-- Settles O16: the text of a raw literal is its payload. -/
theorem strRawReturnsItsPayload : Obligations.StrRawReturnsItsPayload := by
  unfold Obligations.StrRawReturnsItsPayload
  intro s p payload hact
  rw [exec_strRaw, stringBody_of_text hact (literalText_raw payload), State.answer]

/-- Settles O17: the text of a Huffman-coded literal, or its error, is that of `HUFF.DEC`. -/
theorem strHuffReturnsItsDecodedPayload : Obligations.StrHuffReturnsItsDecodedPayload := by
  unfold Obligations.StrHuffReturnsItsDecodedPayload
  intro s p payload hact
  refine ⟨fun text htext => ?_, fun e herror => ?_⟩
  · rw [exec_strHuff, stringBody_of_text hact ((literalText_huff payload).trans htext), State.answer]
  · rw [exec_strHuff, stringBody_of_error ((literalText_huff payload).trans herror), State.primitiveError, State.answer]

end Sys2Proof.Machine
end

section
/-!
SUPPORT. The code is complete: the stretches of windows that begin with its codes lie end to end, so every window begins
with a code, EOS included (43_huffman_table R203); and what that says of the walk (42_huffman R170, R173, R174).
-/

namespace Sys2Proof.Machine

/-! ### Every window begins with a code -/

/-- The first window that begins with a code. -/
def codeStart (c : HuffCode) : Nat := c.code * 2 ^ (32 - c.len)

/-- The window after the last one that begins with a code. -/
def codeEnd (c : HuffCode) : Nat := (c.code + 1) * 2 ^ (32 - c.len)

theorem windowBegins_iff_div (W : BitVec 32) (c : HuffCode) :
    WindowBegins W c ↔ W.toNat / 2 ^ (32 - c.len) = c.code := by
  rw [WindowBegins, Nat.shiftRight_eq_div_pow]

theorem windowBegins_iff_between (W : BitVec 32) (c : HuffCode) :
    WindowBegins W c ↔ codeStart c ≤ W.toNat ∧ W.toNat < codeEnd c := by
  rw [windowBegins_iff_div, codeStart, codeEnd, ← Nat.le_div_iff_mul_le (Nat.two_pow_pos _),
    ← Nat.div_lt_iff_lt_mul (Nat.two_pow_pos _)]
  omega

/-- Where the windows of a code end, those of another begin, or there are no more windows (43_huffman_table R203). -/
theorem codeEnd_check : huffCodeTable.all (fun c =>
    codeEnd c == 2 ^ 32 || huffCodeTable.any fun d => codeStart d == codeEnd c) = true := by decide +kernel

theorem exists_codeStart_eq_codeEnd {c : HuffCode} (hc : c ∈ huffCodeTable) (hend : codeEnd c ≠ 2 ^ 32) :
    ∃ d ∈ huffCodeTable, codeStart d = codeEnd c := by
  have hnext := List.all_eq_true.1 codeEnd_check c hc
  simp only [Bool.or_eq_true, beq_iff_eq, List.any_eq_true] at hnext
  exact hnext.resolve_left hend

theorem codeStart_lt_codeEnd (c : HuffCode) : codeStart c < codeEnd c :=
  Nat.mul_lt_mul_of_pos_right (Nat.lt_succ_self _) (Nat.two_pow_pos _)

/-- The windows one by one: the next one begins with the same code, or with the one that follows it. -/
theorem exists_code_between {w : Nat} (hw : w < 2 ^ 32) :
    ∃ c ∈ huffCodeTable, codeStart c ≤ w ∧ w < codeEnd c := by
  induction w with
  | zero => exact ⟨huffCodeOf 48, huffCodeOf_mem (by decide), by decide +kernel⟩
  | succ w ih =>
    obtain ⟨c, hc, hstart, hlt⟩ := ih (by omega)
    by_cases hsame : w + 1 < codeEnd c
    · exact ⟨c, hc, by omega, hsame⟩
    · have hend : codeEnd c = w + 1 := by omega
      obtain ⟨d, hd, hnext⟩ := exists_codeStart_eq_codeEnd hc (by omega)
      have hinside := codeStart_lt_codeEnd d
      exact ⟨d, hd, by omega, by omega⟩

theorem exists_windowBegins (W : BitVec 32) : ∃ sym < 257, WindowBegins W (huffCodeOf sym) := by
  obtain ⟨c, hc, hbetween⟩ := exists_code_between W.isLt
  obtain ⟨sym, hsym, rfl⟩ := List.getElem_of_mem hc
  refine ⟨sym, by rwa [huffCodeTable_length] at hsym, ?_⟩
  rwa [huffCodeOf_eq_getElem hsym, windowBegins_iff_between]

theorem windowBegins_eos_iff (W : BitVec 32) : WindowBegins W (huffCodeOf eosSymbol) ↔ 2 ^ 32 - 4 ≤ W.toNat := by
  have hstart : codeStart (huffCodeOf eosSymbol) = 2 ^ 32 - 4 := by decide +kernel
  have hend : codeEnd (huffCodeOf eosSymbol) = 2 ^ 32 := by decide +kernel
  rw [windowBegins_iff_between, hstart, hend]
  exact and_iff_left W.isLt

/-- A window that does not begin with EOS begins with the code of an octet. -/
theorem exists_windowBegins_octet {W : BitVec 32} (hW : ¬ WindowBegins W (huffCodeOf eosSymbol)) :
    ∃ sym < 256, WindowBegins W (huffCodeOf sym) := by
  obtain ⟨sym, hsym, hbegins⟩ := exists_windowBegins W
  have hne : sym ≠ eosSymbol := by rintro rfl; exact hW hbegins
  exact ⟨sym, by simp only [eosSymbol] at hne; omega, hbegins⟩

/-! ### The statements about the walk -/

/-- Settles O42: the window begins with the code of an octet, and the walk ends in its leaf. -/
theorem walkReachesEveryCode : Obligations.WalkReachesEveryCode := by
  unfold Obligations.WalkReachesEveryCode
  intro W hW
  obtain ⟨sym, hsym, hbegins⟩ := exists_windowBegins_octet (mt (windowBegins_eos_iff W).1 (not_le.2 hW))
  exact ⟨sym, hsym, walk_of_windowBegins hsym hbegins, (windowBegins_iff_div W _).1 hbegins⟩

/-- Settles O43: a window that begins with EOS ends in an empty slot, any other in a leaf. -/
theorem emptySlotsAreTheEosCode : Obligations.EmptySlotsAreTheEosCode := by
  unfold Obligations.EmptySlotsAreTheEosCode
  intro W
  rw [← windowBegins_eos_iff]
  by_cases hW : WindowBegins W (huffCodeOf eosSymbol)
  · simp [walk_of_windowBegins_eos hW, hW]
  · obtain ⟨sym, hsym, hbegins⟩ := exists_windowBegins_octet hW
    simp [walk_of_windowBegins hsym hbegins, hW]

end Sys2Proof.Machine
end

section
/-!
SUPPORT. The HUFF unit turn by turn (42_huffman R176): the rows of the code table as instructions (43_huffman_table
R201), the bound on the output and on the turns (R180), and `HUFF.DEC` of `HUFF.ENC` (R183).
-/

namespace Sys2Proof.Machine

/-! ### The leaf of a symbol -/

theorem huffUnmatched_of_lt_eight {r : HuffRegs} (h : bitsAvailable r.payload r.bitpos < 8) :
    huffUnmatched r = .finished r.text := if_pos h

theorem huffUnmatched_of_eight_le {r : HuffRegs} (h : 8 ≤ bitsAvailable r.payload r.bitpos) :
    huffUnmatched r = .failed := if_neg (not_lt.2 h)

/-- No code is longer than a window, so it is valid when the payload holds all its bits (42_huffman R177). -/
theorem huffLeaf_of_le {sym : Nat} {r : HuffRegs} (hsym : sym < 257)
    (h : (huffCodeOf sym).len ≤ bitsAvailable r.payload r.bitpos) :
    huffLeaf sym (huffCodeOf sym).len r =
      .more ⟨r.payload, r.bitpos + (huffCodeOf sym).len, r.text ++ [BitVec.ofNat 8 sym]⟩ := by
  obtain ⟨-, hlen, -⟩ := huffCodeOf_bounds hsym
  exact if_pos (le_min (by omega) h)

theorem huffLeaf_of_lt {sym len : Nat} {r : HuffRegs} (h : bitsAvailable r.payload r.bitpos < len) :
    huffLeaf sym len r = huffUnmatched r := if_neg (not_le.2 ((min_le_right _ _).trans_lt h))

/-- The row of a symbol other than EOS reaches the symbol's leaf (43_huffman_table R201). -/
theorem exec_code {s : State} {r : HuffRegs} {i : Instr} {sym : Nat} (hact : s.activity = .huffman r)
    (hi : i.form = .code sym) (hsym : sym ≠ eosSymbol) :
    exec i s = .next (s.afterTurn (huffLeaf sym (huffCodeOf sym).len r)) := by
  rw [exec_of_code hi, if_neg hsym, codeBody_eq sym hact]

/-! ### The statements about the rows -/

/-- Settles O18: the leaf of the symbol is valid. -/
theorem huffCodeEmitsItsSymbol : Obligations.HuffCodeEmitsItsSymbol := by
  unfold Obligations.HuffCodeEmitsItsSymbol
  intro s r i sym hact hi hsym hinside
  obtain ⟨hlt, -⟩ := huffInstr_of_form hi
  rw [exec_code hact hi hsym, huffLeaf_of_le hlt hinside, State.afterTurn_more]

/-- Settles O19: the leaf of the symbol is no match, and the number of bits left decides. -/
theorem huffCodePastTheEndIsPaddingOrFailure : Obligations.HuffCodePastTheEndIsPaddingOrFailure := by
  unfold Obligations.HuffCodePastTheEndIsPaddingOrFailure
  intro s r i sym hact hi hsym houtside
  rw [exec_code hact hi hsym, huffLeaf_of_lt houtside]
  refine ⟨fun hfew => ?_, fun hmany => ?_⟩
  · rw [huffUnmatched_of_lt_eight hfew, State.afterTurn_finished, State.answer]
  · rw [huffUnmatched_of_eight_le hmany, State.afterTurn_failed, State.primitiveError, State.answer]

/-- Settles O20: the row EOS is the turn that fails. -/
theorem huffEosRaisesHuffmanDecodeFailure : Obligations.HuffEosRaisesHuffmanDecodeFailure := by
  unfold Obligations.HuffEosRaisesHuffmanDecodeFailure
  intro s
  rw [exec_of_code (sym := eosSymbol) rfl, if_pos rfl, eosBody, State.afterTurn_failed, State.primitiveError,
    State.answer]

/-! ### The loop of `HUFF.DEC` -/

theorem huffTurn_of_atEnd {r : HuffRegs} (h : bitsAvailable r.payload r.bitpos < 5) :
    huffTurn r = .finished r.text := if_pos (decide_eq_true h)

theorem huffTurn_of_windowBegins {r : HuffRegs} {sym : Nat} (hsym : sym < 256)
    (hmore : 5 ≤ bitsAvailable r.payload r.bitpos)
    (hW : WindowBegins (window r.payload r.bitpos) (huffCodeOf sym)) :
    huffTurn r = huffLeaf sym (huffCodeOf sym).len r := by
  have hgoes : huffAtEnd r = false := decide_eq_false (not_lt.2 hmore)
  simp only [huffTurn, hgoes, walk_of_windowBegins hsym hW, Bool.false_eq_true, if_false]

theorem huffTurn_finished {r : HuffRegs} {text : Octets} (h : huffTurn r = .finished text) : text = r.text := by
  have unmatched (hu : huffUnmatched r = .finished text) : text = r.text := by
    rcases huffUnmatched_cases r with he | he <;> rw [he] at hu <;> cases hu
    rfl
  unfold huffTurn at h
  split at h
  · cases h; rfl
  · split at h
    · cases h
    next sym len _ =>
      rcases huffLeaf_cases sym len r with ⟨_, he⟩ | ⟨_, he⟩ <;> rw [he] at h
      · cases h
      · exact unmatched h
    · exact unmatched h

/-- Two bounds on the turns that the bits left do not need give the same (42_huffman R180). -/
theorem huffLoop_eq_of_lt {turns turns' : Nat} {r : HuffRegs}
    (h : bitsAvailable r.payload r.bitpos < 5 * turns) (h' : bitsAvailable r.payload r.bitpos < 5 * turns') :
    huffLoop turns r = huffLoop turns' r := by
  induction turns generalizing turns' r with
  | zero => omega
  | succ turns ih =>
    cases turns' with
    | zero => omega
    | succ turns' =>
      rw [huffLoop, huffLoop]
      cases hturn : huffTurn r with
      | finished => rfl
      | failed => rfl
      | more r' =>
        obtain ⟨_, _, hpayload, _, _, hfive, hinside⟩ := huffTurn_more hturn
        rw [bitsAvailable] at h h'
        exact ih (by rw [hpayload, bitsAvailable]; omega) (by rw [hpayload, bitsAvailable]; omega)

/-- Each octet that the loop emits takes five bits or more of those left (42_huffman R180). -/
theorem huffLoop_length_le {turns : Nat} {r : HuffRegs} {text : Octets} (h : huffLoop turns r = .ok text) :
    5 * text.length ≤ 5 * r.text.length + bitsAvailable r.payload r.bitpos := by
  induction turns generalizing r with
  | zero => cases h
  | succ turns ih =>
    rw [huffLoop] at h
    cases hturn : huffTurn r with
    | failed => rw [hturn] at h; cases h
    | finished text' =>
      rw [hturn] at h
      cases h
      rw [huffTurn_finished hturn]
      exact Nat.le_add_right _ _
    | more r' =>
      rw [hturn] at h
      obtain ⟨_, _, hpayload, _, htext, hfive, hinside⟩ := huffTurn_more hturn
      have hrest := ih h
      rw [hpayload, htext, List.length_append, List.length_singleton, bitsAvailable] at hrest
      rw [bitsAvailable]
      omega

/-- Settles O44: each turn that goes on takes five bits of the payload, so the bits bound the turns and the octets. -/
theorem huffDecOutputIsBounded : Obligations.HuffDecOutputIsBounded := by
  unfold Obligations.HuffDecOutputIsBounded
  refine ⟨fun r r' hturn => ?_, fun S turns hturns => ?_, fun S text hdec => ?_⟩
  · obtain ⟨sym, _, hpayload, _, htext, hfive, hinside⟩ := huffTurn_more hturn
    exact ⟨hpayload, hfive, hinside, BitVec.ofNat 8 sym, htext⟩
  · exact huffLoop_eq_of_lt (by simp only [bitsAvailable, huffStart]; omega)
      (by simp only [bitsAvailable, huffStart]; omega)
  · have hlength := huffLoop_length_le hdec
    simp only [bitsAvailable, huffStart, List.length_nil] at hlength
    omega

/-! ### What is left of a payload -/

/-- From a bit position to its end, the payload is these bits. -/
structure BitsLeft (S : Octets) (p : Nat) (bits : List Bool) : Prop where
  length_eq : p + bits.length = 8 * S.length
  bit_eq : ∀ j < bits.length, bitAt S (p + j) = bits.getD j false

theorem BitsLeft.bitsAvailable_eq {S : Octets} {p : Nat} {bits : List Bool} (h : BitsLeft S p bits) :
    bitsAvailable S p = bits.length := by
  have hlength := h.length_eq
  rw [bitsAvailable]
  omega

theorem BitsLeft.of_append {S : Octets} {p : Nat} {bits more : List Bool} (h : BitsLeft S p (bits ++ more)) :
    BitsLeft S (p + bits.length) more where
  length_eq := by rw [← h.length_eq, List.length_append, Nat.add_assoc]
  bit_eq j hj := by
    rw [Nat.add_assoc, h.bit_eq _ (by rw [List.length_append]; omega),
      List.getD_append_right _ _ _ _ (Nat.le_add_right _ _), Nat.add_sub_cancel_left]

theorem length_packBits {bits : List Bool} (hwhole : 8 ∣ bits.length) : 8 * (packBits bits).length = bits.length := by
  induction bits using packBits.induct with
  | case1 b7 b6 b5 b4 b3 b2 b1 b0 more ih =>
    simp only [List.length_cons] at hwhole
    have hmore := ih (by omega)
    simp only [packBits, List.length_cons]
    omega
  | case2 bits hshort =>
    have hnil : bits = [] := by
      by_contra hne
      have hpos := List.length_pos_iff.2 hne
      obtain ⟨b7, b6, b5, b4, b3, b2, b1, b0, more, rfl⟩ := exists_eight_of_le_length (bits := bits) (by omega)
      exact hshort b7 b6 b5 b4 b3 b2 b1 b0 more rfl
    rw [hnil]
    rfl

theorem bitsLeft_packBits {bits : List Bool} (hwhole : 8 ∣ bits.length) : BitsLeft (packBits bits) 0 bits where
  length_eq := by rw [length_packBits hwhole, Nat.zero_add]
  bit_eq j hj := by
    rw [Nat.zero_add, ← bitAt_packBits bits [] hwhole hj, List.append_nil]

/-- The window at a position where the bits of a code are next begins with the code. -/
theorem BitsLeft.windowBegins {S : Octets} {p : Nat} {c : HuffCode} {more : List Bool}
    (h : BitsLeft S p (codeBits c ++ more)) (hc : c ∈ huffCodeTable) : WindowBegins (window S p) c := by
  obtain ⟨-, hlen, hcode⟩ := huffCodeTable_bounds c hc
  refine windowBegins_of_bits (by omega) hcode fun j hj => ?_
  have hj' : j < (codeBits c).length := by rwa [codeBits_length]
  rw [h.bit_eq j (by rw [List.length_append]; omega), List.getD_append _ _ _ _ hj', codeBits_getD hj]

/-! ### The padding -/

theorem bitAt_of_le {S : Octets} {q : Nat} (h : 8 * S.length ≤ q) : bitAt S q = false := by
  rw [bitAt, List.getD_eq_default _ _ (by omega)]
  exact BitVec.getLsbD_zero

/-- With fewer bits left than EOS has, the zero fill keeps the window from beginning with it (42_huffman R175). -/
theorem not_windowBegins_eos_of_lt {S : Octets} {p : Nat} (h : bitsAvailable S p < 30) :
    ¬ WindowBegins (window S p) (huffCodeOf eosSymbol) := by
  rw [bitsAvailable] at h
  rw [WindowBegins]
  intro hW
  have hlast : (window S p).toNat.testBit 2 = true := by
    have hbit : (huffCodeOf eosSymbol).code.testBit 0 = true := by decide +kernel
    rwa [← hW, Nat.testBit_shiftRight] at hbit
  rw [window_testBit, bitAt_of_le (by omega)] at hlast
  cases hlast

theorem trieRows_ones_check : trieRows.all (fun c => c.code != 2 ^ c.len - 1) = true := by decide +kernel

/-- Where one-bits are next, the window begins with them. -/
theorem window_shiftRight_of_ones {S : Octets} {p k n : Nat} (hones : BitsLeft S p (List.replicate k true))
    (hn : n ≤ k) (h32 : n ≤ 32) : (window S p).toNat >>> (32 - n) = 2 ^ n - 1 := by
  refine windowBegins_of_bits (c := ⟨2 ^ n - 1, n⟩) h32 (Nat.sub_one_lt (Nat.two_pow_pos n).ne')
    fun j (hj : j < n) => ?_
  have hone : n - 1 - j < n := by omega
  rw [hones.bit_eq j (by rw [List.length_replicate]; omega), Nat.testBit_two_pow_sub_one,
    List.getD_replicate _ (hj.trans_le hn), decide_eq_true hone]

/-- No code of an octet is all ones, so one-bits are padding and never a code (47_encoder R294 line 3). -/
theorem lt_len_of_ones {S : Octets} {p k sym : Nat} (hones : BitsLeft S p (List.replicate k true))
    (hsym : sym < 256) (hW : WindowBegins (window S p) (huffCodeOf sym)) : k < (huffCodeOf sym).len := by
  by_contra hle
  obtain ⟨-, hlen, -⟩ := huffCodeOf_bounds (show sym < 257 by omega)
  have hall : (huffCodeOf sym).code = 2 ^ (huffCodeOf sym).len - 1 :=
    hW.symm.trans (window_shiftRight_of_ones hones (not_lt.1 hle) (by omega))
  have hrow := List.all_eq_true.1 trieRows_ones_check _ (mem_trieRows hsym)
  rw [hall, bne_self_eq_false] at hrow
  cases hrow

/-- Fewer than eight one-bits end the decode (42_huffman R176 lines 2 and 13, R178). -/
theorem huffTurn_of_padding {r : HuffRegs} {k : Nat} (hk : k < 8)
    (hones : BitsLeft r.payload r.bitpos (List.replicate k true)) : huffTurn r = .finished r.text := by
  have hleft : bitsAvailable r.payload r.bitpos = k := by rw [hones.bitsAvailable_eq, List.length_replicate]
  by_cases hend : k < 5
  · exact huffTurn_of_atEnd (by omega)
  · obtain ⟨sym, hsym, hW⟩ := exists_windowBegins_octet
      (not_windowBegins_eos_of_lt (S := r.payload) (p := r.bitpos) (by omega))
    have hlen := lt_len_of_ones hones hsym hW
    rw [huffTurn_of_windowBegins hsym (by omega) hW, huffLeaf_of_lt (by omega), huffUnmatched_of_lt_eight (by omega)]

/-! ### `HUFF.DEC` of `HUFF.ENC` -/

/-- The code bits of an octet string, before they are padded (47_encoder R294 line 2). -/
def stringBits (s : Octets) : List Bool := s.flatMap fun x => codeBits (huffCodeOf x.toNat)

theorem huffEnc_eq (s : Octets) : huffEnc s = packBits (padBits (stringBits s)) := rfl

theorem bitsLeft_huffEnc (s : Octets) : BitsLeft (huffEnc s) 0 (padBits (stringBits s)) := by
  rw [huffEnc_eq]
  exact bitsLeft_packBits (padBits_length_dvd _)

/-- A turn where the bits of an octet's code are next emits the octet. -/
theorem huffTurn_of_codeBits {r : HuffRegs} {x : Octet} {more : List Bool}
    (h : BitsLeft r.payload r.bitpos (codeBits (huffCodeOf x.toNat) ++ more)) :
    huffTurn r = .more ⟨r.payload, r.bitpos + (codeBits (huffCodeOf x.toNat)).length, r.text ++ [x]⟩ := by
  have hsym : x.toNat < 256 := x.isLt
  have hsym' : x.toNat < 257 := by omega
  obtain ⟨hlen, -, -⟩ := huffCodeOf_bounds hsym'
  have hinside : (huffCodeOf x.toNat).len ≤ bitsAvailable r.payload r.bitpos := by
    rw [h.bitsAvailable_eq, List.length_append, codeBits_length]
    exact Nat.le_add_right _ _
  rw [huffTurn_of_windowBegins hsym (hlen.trans hinside) (h.windowBegins (huffCodeOf_mem hsym')),
    huffLeaf_of_le hsym' hinside, codeBits_length, BitVec.ofNat_toNat, BitVec.setWidth_eq]

/-- From a position where the bits of a string and fewer than eight one-bits are left, the loop emits the string. -/
theorem huffLoop_of_stringBits {s : Octets} {turns k : Nat} {r : HuffRegs} (hk : k < 8)
    (h : BitsLeft r.payload r.bitpos (stringBits s ++ List.replicate k true))
    (hturns : bitsAvailable r.payload r.bitpos < 5 * turns) : huffLoop turns r = .ok (r.text ++ s) := by
  induction s generalizing turns r with
  | nil =>
    cases turns with
    | zero => omega
    | succ turns => rw [huffLoop, huffTurn_of_padding hk h, List.append_nil]
  | cons x s ih =>
    cases turns with
    | zero => omega
    | succ turns =>
      rw [stringBits, List.flatMap_cons, ← stringBits, List.append_assoc] at h
      have hturn := huffTurn_of_codeBits h
      obtain ⟨_, _, _, _, _, hfive, hinside⟩ := huffTurn_more hturn
      dsimp only [bitsAvailable] at hturns hfive hinside
      rw [huffLoop, hturn]
      dsimp only
      rw [ih h.of_append (by dsimp only [bitsAvailable]; omega), List.append_assoc, List.singleton_append]

/-- Settles O41: the payload is the bits of the string, which the loop emits, and the padding, which ends it. -/
theorem huffmanRoundTrip : Obligations.HuffmanRoundTrip := by
  unfold Obligations.HuffmanRoundTrip
  intro s
  exact huffLoop_of_stringBits (r := huffStart (huffEnc s)) (Nat.mod_lt _ (by decide)) (bitsLeft_huffEnc s)
    (by simp only [bitsAvailable, huffStart]; omega)

end Sys2Proof.Machine
end

section
/-!
SUPPORT. The statements about the tables: what an index reads (44_tables R210), what an insert and a resize evict (R214
to R218), the invariant of the sizes (R219), and which steps of a run insert (R211).
-/

namespace Sys2Proof.Machine

/-! ### Reading the joint table -/

theorem staticTable_length : staticTable.length = Config.staticCount := by decide +kernel

theorem Table.get_of_outside {t : Table} {i : Nat} (h : i = 0 ∨ Config.staticCount + t.entries.length < i) :
    t.get i = .error .invalidIndex := if_pos h

theorem Table.get_of_static {t : Table} {i : Nat} (hpos : 1 ≤ i) (hle : i ≤ Config.staticCount) :
    t.get i = .ok (staticTable.getD (i - 1) default) := by
  rw [Table.get, if_neg (by omega), if_pos hle]

theorem Table.get_of_dynamic {t : Table} {i : Nat} (hlt : Config.staticCount < i)
    (hle : i ≤ Config.staticCount + t.entries.length) :
    t.get i = .ok (t.entries.getD (i - Config.staticCount - 1) default) := by
  rw [Table.get, if_neg (by omega), if_neg (by omega)]

/-- Settles O21: the two comparisons of `GET` split the indices into the three ranges. -/
theorem getReadsTheJointTable : Obligations.GetReadsTheJointTable := by
  unfold Obligations.GetReadsTheJointTable
  intro t i
  have hcount : Config.staticCount = 61 := rfl
  refine ⟨Table.get_of_outside, fun hpos hle => ?_, fun ⟨hlt, hinside⟩ => ?_⟩
  · have hstatic : i - 1 < staticTable.length := by rw [staticTable_length]; omega
    exact ⟨hstatic, by rw [Table.get_of_static hpos hle, List.getD_eq_getElem _ _ hstatic]⟩
  · rw [Table.get_of_dynamic (by omega) (by omega)]
    exact congrArg Except.ok (List.getD_eq_getElem _ _ hinside)

/-! ### What an insert and a resize evict -/

/-- The eviction loop run to its end: the newest entries that the test lets stay, as many as it lets. -/
theorem Table.evictWhile_eq (p : Nat → Bool) {t : Table} (h : t.curSize = sizeSum t.entries) :
    ∃ k ≤ t.entries.length,
      t.evictWhile p t.entries.length = ⟨t.entries.take k, sizeSum (t.entries.take k), t.maxSize⟩ ∧
      (k = 0 ∨ p (sizeSum (t.entries.take k)) = false) ∧
      (k = t.entries.length ∨ p (sizeSum (t.entries.take (k + 1))) = true) := by
  obtain ⟨k, hk, hentries, hcur, hend, hlonger⟩ := Table.evictWhile_spec p t.entries.length t h le_rfl
  refine ⟨k, hk, ?_, hend, hk.eq_or_lt.imp_right (hlonger (k + 1) k.lt_succ_self)⟩
  rw [← hcur, ← hentries, ← Table.evictWhile_maxSize p t.entries.length t]

/-- An entry larger than the cap is not inserted (44_tables R214 step 3). -/
theorem Table.add_of_lt {t : Table} {e : Entry} (h : t.maxSize < entrySize e) :
    t.add e = t.evictWhile (fun cur => decide (t.maxSize < cur + entrySize e)) t.entries.length :=
  if_pos (by rwa [Table.evictWhile_maxSize])

/-- An entry that fits the cap becomes the head of what the eviction leaves (44_tables R214 step 4). -/
theorem Table.add_of_le {t : Table} {e : Entry} {kept : List Entry} {size : Nat} (h : entrySize e ≤ t.maxSize)
    (hkept : t.evictWhile (fun cur => decide (t.maxSize < cur + entrySize e)) t.entries.length =
      ⟨kept, size, t.maxSize⟩) :
    t.add e = ⟨e :: kept, entrySize e + size, t.maxSize⟩ := by
  rw [Table.add, hkept, Nat.add_comm (entrySize e)]
  exact if_neg (not_lt.2 h)

/-- Settles O35: an entry larger than the cap leaves the loop's test true of every size, so the loop empties the
table; another one is put before the entries that the loop keeps. -/
theorem tableAddEvictsJustEnough : Obligations.TableAddEvictsJustEnough := by
  unfold Obligations.TableAddEvictsJustEnough
  intro t e ⟨hsize, _⟩
  obtain ⟨k, hk, hkept, hend, hmost⟩ :=
    Table.evictWhile_eq (fun cur => decide (t.maxSize < cur + entrySize e)) hsize
  rw [decide_eq_false_iff_not] at hend
  rw [decide_eq_true_iff] at hmost
  refine ⟨fun hlarge => ?_, fun hfits => ⟨k, hk, Table.add_of_le hfits hkept, ?_, by omega⟩⟩
  · have hnone : k = 0 := by omega
    rw [Table.add_of_lt hlarge, hkept, hnone]
    rfl
  · rcases hend with rfl | hend
    · exact hfits
    · omega

/-- Settles O36: the loop's test is that the size exceeds the new cap, and it is false of an empty table. -/
theorem tableResizeEvictsJustEnough : Obligations.TableResizeEvictsJustEnough := by
  unfold Obligations.TableResizeEvictsJustEnough
  intro t new ⟨hsize, _⟩
  obtain ⟨k, hk, hkept, hend, hmost⟩ :=
    Table.evictWhile_eq (t := { t with maxSize := new }) (fun cur => decide (new < cur)) hsize
  rw [decide_eq_false_iff_not, not_lt] at hend
  rw [decide_eq_true_iff] at hmost
  refine ⟨k, hk, hkept, ?_, hmost⟩
  rcases hend with rfl | hend
  · exact Nat.zero_le new
  · exact hend

/-! ### The invariant of the sizes -/

/-- Each entry takes 32 octets of the cap or more (44_tables R219). -/
theorem Table.wf.length_le {t : Table} (h : t.wf) : t.entries.length ≤ t.maxSize / 32 := by
  obtain ⟨hsize, hcap⟩ := h
  have hoverhead := sizeSum_ge t.entries
  omega

/-- Settles O37: both operations keep the invariant, and the invariant bounds the number of entries. -/
theorem tableOperationsKeepTheSizeInvariant : Obligations.TableOperationsKeepTheSizeInvariant := by
  unfold Obligations.TableOperationsKeepTheSizeInvariant
  intro t e new h
  have hadd := Table.add_wf h e
  have hresize := Table.resize_wf h new
  exact ⟨hadd, hresize, h.length_le, hadd.length_le, hresize.length_le⟩

/-! ### Which steps of a run insert -/

/-- The eviction loop removes from the tail alone, whatever the size register holds. -/
theorem Table.evictWhile_entries_prefix (p : Nat → Bool) (bound : Nat) (t : Table) :
    (t.evictWhile p bound).entries <+: t.entries := by
  induction bound generalizing t with
  | zero => exact List.prefix_rfl
  | succ bound ih =>
    rw [Table.evictWhile]
    split
    · exact List.prefix_rfl
    · split
      · have hrest := ih t.evictOldest
        rw [Table.evictOldest_entries] at hrest
        exact hrest.trans (List.dropLast_prefix _)
      · exact List.prefix_rfl

theorem Table.resize_entries_prefix (t : Table) (new : Nat) : (t.resize new).entries <+: t.entries :=
  Table.evictWhile_entries_prefix _ _ { t with maxSize := new }

/-- A step of a run leaves a front part of the table, raises an error, or is that of `LITINC`. -/
theorem RunStep.entries_prefix {s t : State} (h : RunStep s t) (herr : t.err = .ok)
    (hkind : repKind (s.block.read s.pos) ≠ .literal .incremental) : t.table.entries <+: s.table.entries := by
  cases h with
  | finished => exact List.prefix_rfl
  | raised e he => exact absurd herr he.1
  | field n header inserts _ _ _ hinserts =>
    cases inserts with
    | false => exact List.prefix_rfl
    | true => exact absurd (hinserts.1 rfl) hkind
  | sizeUpdate n new => exact Table.resize_entries_prefix s.table new

/-- Settles O50: the first octet is not that of `LITINC`, the one representation whose step inserts. -/
theorem onlyLitincInsertsIntoTheTable : Obligations.OnlyLitincInsertsIntoTheTable := by
  unfold Obligations.OnlyLitincInsertsIntoTheTable
  intro s t hrun _ _ hoctet ht herr
  have hkind := mt (repKind_incremental_iff (s.block.read s.pos)).1 hoctet
  exact ⟨_, List.prefix_iff_eq_take.1 ((runStep_of_step hrun ht).entries_prefix herr hkind)⟩

end Sys2Proof.Machine
end

section
/-!
SUPPORT. The statements about the five representations, each by itself: the header it emits, what it does to the table
and the phase, and the errors it raises (45_dispatch R238 to R244); and how a run starts and ends (R236, R245).
-/

namespace Sys2Proof.Machine

/-! ### What each representation does -/

theorem exec_indexed (index : Nat) (s : State) : exec (.indexed index) s = execIndexed index s := rfl
theorem exec_sizeupd (new : Nat) (s : State) : exec (.sizeupd new) s = execSizeupd new s := rfl

theorem execIndexed_of_entry {s : State} {index : Nat} {entry : Entry} (h : s.table.get index = .ok entry) :
    execIndexed index s = .next (s.emit ⟨entry.name, entry.value, false⟩).endField := by
  rcases execIndexed_cases index s with ⟨rfl, _⟩ | ⟨e, _, hget, _⟩ | ⟨_, _, hget, hexec⟩
  · cases (Table.get_of_outside (.inl rfl)).symm.trans h
  · cases hget.symm.trans h
  · cases hget.symm.trans h
    exact hexec

theorem execIndexed_of_error {s : State} {index : Nat} {e : ErrCode} (h : s.table.get index = .error e) :
    execIndexed index s = .next (s.raise e) := by
  rcases execIndexed_cases index s with ⟨_, hexec⟩ | ⟨_, _, hget, hexec⟩ | ⟨entry, _, hget, _⟩
  · rw [hexec, Table.get_error h]
  · cases hget.symm.trans h
    exact hexec
  · cases hget.symm.trans h

theorem literalBody_of_name_error {s : State} {name : NameRef} {e : ErrCode} (insert sensitive : Bool) (value : StrLit)
    (hname : resolveName s.table name = .error e) : literalBody insert sensitive name value s = .next (s.raise e) := by
  rw [literalBody, hname]

theorem literalBody_of_value_error {s : State} {name : NameRef} {value : StrLit} {n : Octets} {e : ErrCode}
    (insert sensitive : Bool) (hname : resolveName s.table name = .ok n) (hvalue : literalText value = .error e) :
    literalBody insert sensitive name value s = .next (s.raise e) := by
  simp only [literalBody, hname, hvalue]

theorem literalBody_of_texts {s : State} {name : NameRef} {value : StrLit} {n v : Octets} (insert sensitive : Bool)
    (hname : resolveName s.table name = .ok n) (hvalue : literalText value = .ok v) :
    literalBody insert sensitive name value s =
      .next { s with
        out := s.out ++ [⟨n, v, sensitive⟩]
        table := if insert then s.table.add ⟨n, v⟩ else s.table
        phase := .awaitingField } := by
  simp only [literalBody, hname, hvalue]
  cases insert <;> rfl

/-! ### The statements about the representations -/

/-- Settles O8: `GET` finds no entry at index 0, so the index is not 0 and the entry is emitted. -/
theorem indexedEmitsTheTableEntry : Obligations.IndexedEmitsTheTableEntry := by
  unfold Obligations.IndexedEmitsTheTableEntry
  intro s index entry hget
  rw [exec_indexed, execIndexed_of_entry hget]
  rfl

/-- Settles O9: these are the indices at which `GET` finds no entry. -/
theorem indexedWithoutAnEntryRaisesInvalidIndex : Obligations.IndexedWithoutAnEntryRaisesInvalidIndex := by
  unfold Obligations.IndexedWithoutAnEntryRaisesInvalidIndex
  intro s index houtside
  rw [exec_indexed, execIndexed_of_error (Table.get_of_outside houtside)]

/-- Settles O10: `LITINC` is the literal that inserts and is not sensitive. -/
theorem litincEmitsAndInserts : Obligations.LitincEmitsAndInserts := by
  unfold Obligations.LitincEmitsAndInserts
  intro s name value n v hname hvalue
  exact (exec_literalInstr .incremental name value s).trans (literalBody_of_texts true false hname hvalue)

/-- Settles O11: `LITNOIDX` is the literal that neither inserts nor is sensitive. -/
theorem litnoidxEmitsWithoutInsert : Obligations.LitnoidxEmitsWithoutInsert := by
  unfold Obligations.LitnoidxEmitsWithoutInsert
  intro s name value n v hname hvalue
  exact (exec_literalInstr .without name value s).trans (literalBody_of_texts false false hname hvalue)

/-- Settles O12: `LITNEVER` is the literal that does not insert and is sensitive. -/
theorem litneverEmitsSensitive : Obligations.LitneverEmitsSensitive := by
  unfold Obligations.LitneverEmitsSensitive
  intro s name value n v hname hvalue
  exact (exec_literalInstr .never name value s).trans (literalBody_of_texts false true hname hvalue)

/-- Settles O13: the three kinds share one body, which resolves the name before the value. -/
theorem literalRaisesNameErrorThenValueError : Obligations.LiteralRaisesNameErrorThenValueError := by
  unfold Obligations.LiteralRaisesNameErrorThenValueError
  intro s kind name value e
  rw [exec_literalInstr]
  exact ⟨literalBody_of_name_error _ _ value, fun n => literalBody_of_value_error _ _⟩

/-- Settles O14: of the three things `SIZEUPD` can do, the one in order and within `PROTO_MAX`. -/
theorem sizeupdSetsTheCap : Obligations.SizeupdSetsTheCap := by
  unfold Obligations.SizeupdSetsTheCap
  intro s new horder hnew
  rw [exec_sizeupd]
  rcases execSizeupd_cases new s with ⟨hlate, _⟩ | ⟨_, hlarge, _⟩ | ⟨_, _, hexec⟩
  · exact absurd horder hlate
  · omega
  · exact hexec

/-- Settles O15: of the three things `SIZEUPD` can do, the other two. -/
theorem sizeupdOutOfOrderOrTooLargeRaises : Obligations.SizeupdOutOfOrderOrTooLargeRaises := by
  unfold Obligations.SizeupdOutOfOrderOrTooLargeRaises
  intro s new
  rw [exec_sizeupd]
  rcases execSizeupd_cases new s with ⟨hlate, hexec⟩ | ⟨horder, _, hexec⟩ | ⟨horder, hnew, _⟩
  · exact ⟨fun _ => hexec, fun horder => absurd horder hlate⟩
  · exact ⟨fun hlate => absurd horder hlate, fun _ _ => hexec⟩
  · exact ⟨fun hlate => absurd horder hlate, fun _ hlarge => absurd hnew (Nat.not_le_of_lt hlarge)⟩

/-! ### A run: its start, a step of it, its end -/

/-- What a run does with the decoder's answer (45_dispatch R237): it raises the error of octets that do not decode, and
executes a representation with `POS` past it. -/
def runDecoded (s : State) : Except Reject (Instr × Nat) → Host.Outcome State Fault Refusal
  | .error r => .next (s.raise (rejectError s.phase s.table r))
  | .ok (i, n) => exec i (s.advance n)

theorem step_of_fetch_settled {s t : State} (hfetch : fetch s = .settled t) : step s = .next t := by
  rw [step, hfetch]

theorem fetch_run {s : State} (hrun : s.activity = .run) : fetch s = fetchRep s := by
  rw [fetch, hrun]

theorem step_run_of_lt {s : State} (hrun : s.activity = .run) (hlt : s.pos < s.len) :
    step s = runDecoded s (decodeRep s.limits (s.octetsFrom s.pos)) := by
  rcases fetchRep_cases s with ⟨hend, _⟩ | ⟨r, _, hd, hf⟩ | ⟨i, n, _, hd, _, _, hf⟩
  · omega
  · rw [hd, step_of_fetch_settled ((fetch_run hrun).trans hf)]
    rfl
  · rw [hd, step_of_fetch_run ((fetch_run hrun).trans hf)]
    rfl

theorem step_run_of_le {s : State} (hrun : s.activity = .run) (hend : s.len ≤ s.pos) :
    step s = .next (finishRun s) := by
  rcases fetchRep_cases s with ⟨_, hf⟩ | ⟨_, hlt, _⟩ | ⟨_, _, hlt, _⟩
  · exact step_of_fetch_settled ((fetch_run hrun).trans hf)
  · omega
  · omega

/-- Settles O3: the representation is what the decoder answers. -/
theorem stepRunsTheDecodedRepresentation : Obligations.StepRunsTheDecodedRepresentation := by
  unfold Obligations.StepRunsTheDecodedRepresentation
  intro s i n hrun hlt hdecode
  rw [step_run_of_lt hrun hlt, hdecode]
  rfl

/-- Settles O24: the command is admitted, and the buffer reads as the block that was loaded into it. -/
theorem decodeCommandStartsTheRun : Obligations.DecodeCommandStartsTheRun := by
  unfold Obligations.DecodeCommandStartsTheRun
  intro s block rest hidle hcommands hlive herr hlen
  refine ⟨Memory.ofBlock block, fun p hp => ?_, ?_⟩
  · rw [Memory.read_ofBlock, List.getD_eq_getElem _ _ hp]
  · have hadmitted : (decAdmitted { s with commands := rest } && fitsWord block.length) = true :=
      Bool.and_eq_true_iff.2 ⟨(decAdmitted_iff _).2 ⟨hlive, herr⟩, (fitsWord_iff _).2 hlen⟩
    simp only [step_idle hidle, takeCommand, hcommands, runCommand, commandDecDecode]
    rw [if_pos hadmitted]
    rfl

/-- Settles O25: with the cursor at `LEN` a run can only finish. -/
theorem exhaustedRunReturnsItsHeaders : Obligations.ExhaustedRunReturnsItsHeaders := by
  unfold Obligations.ExhaustedRunReturnsItsHeaders
  intro s hrun hend
  rw [step_run_of_le hrun hend.ge]
  rfl

end Sys2Proof.Machine
end

section
/-!
SUPPORT. A step of a run is the rule of its representation, read over the buffer (45_dispatch R237 to R244): rule by
rule, the decoder's answer executed gives what the rule gives, errors in the rule's order (60_exceptions R330, R332).
From it, that a step of a run always has a next state, and that every run ends (45_dispatch R246).
-/

namespace Sys2Proof.Machine

/-! ### The rules step by step -/

/-- The rule that the dispatch selects (45_dispatch R237). -/
def ruleOf (s : State) : RepKind → Except ErrCode State
  | .indexed => indexedRule s
  | .literal kind => literalRule (literalWidth kind) (kind == .incremental) (kind == .never) s
  | .sizeUpdate => sizeUpdateRule s

theorem stepRule_eq_ruleOf (s : State) : stepRule s = ruleOf s (repKind (s.block.read s.pos)) := by
  unfold stepRule repKind
  dsimp only
  split
  · rfl
  · split
    · rfl
    · split
      · rfl
      · split <;> rfl

/-- `LIT`, steps 3 to 6, from the offset past the name (45_dispatch R239). -/
def valueRule (insert sensitive : Bool) (s : State) (p : Nat) (name : Octets) : Except ErrCode State := do
  let (count, value) ← strDec s.limits (s.octetsFrom (s.pos + p))
  pure
    { s with
      out := s.out ++ [⟨name, value, sensitive⟩]
      table := if insert then s.table.add ⟨name, value⟩ else s.table
      phase := .awaitingField
      pos := s.pos + (p + count) }

/-- `LIT` from its name operand on (45_dispatch R239 steps 2 to 6). -/
def namedRule (insert sensitive : Bool) (s : State) (p : Nat) (name : NameRef) : Except ErrCode State := do
  let text ← resolveName s.table name
  valueRule insert sensitive s p text

theorem except_ok_bind {α β : Type} (a : α) (f : α → Except ErrCode β) : (Except.ok a >>= f) = f a := rfl

theorem except_error_bind {α β : Type} (e : ErrCode) (f : α → Except ErrCode β) : (Except.error e >>= f) = .error e :=
  rfl

theorem strDec_of_error {lim : Limits} {bs : Octets} {e : ErrCode} (h : decodeString lim bs = .error e) :
    strDec lim bs = .error e := by
  rw [strDec, h]

theorem strDec_of_text_error {lim : Limits} {bs : Octets} {lit : StrLit} {count : Nat} {e : ErrCode}
    (h : decodeString lim bs = .ok (lit, count)) (htext : literalText lit = .error e) : strDec lim bs = .error e := by
  simp only [strDec, h, htext]

theorem strDec_of_text {lim : Limits} {bs : Octets} {lit : StrLit} {count : Nat} {text : Octets}
    (h : decodeString lim bs = .ok (lit, count)) (htext : literalText lit = .ok text) :
    strDec lim bs = .ok (count, text) := by
  simp only [strDec, h, htext]

section
variable {width p index new count : Nat} {pfx : Octet} {e : ErrCode} {lit : StrLit} {s : State}
variable (insert sensitive : Bool)

theorem literalRule_of_index_error (hint : intDec s.limits (s.octetsFrom s.pos) width = .error e) :
    literalRule width insert sensitive s = .error e := by
  rw [literalRule, hint]
  rfl

theorem literalRule_of_byIndex (hint : intDec s.limits (s.octetsFrom s.pos) width = .ok (p, pfx, index))
    (hindex : index ≠ 0) :
    literalRule width insert sensitive s = namedRule insert sensitive s p (.byIndex index) := by
  simp only [literalRule, hint, except_ok_bind, if_neg hindex, namedRule, resolveName]
  cases s.table.get index <;> rfl

theorem literalRule_of_name_error (hint : intDec s.limits (s.octetsFrom s.pos) width = .ok (p, pfx, 0))
    (hname : decodeString s.limits (s.octetsFrom (s.pos + p)) = .error e) :
    literalRule width insert sensitive s = .error e := by
  simp only [literalRule, hint, except_ok_bind, if_pos, strDec_of_error hname]
  rfl

theorem literalRule_of_literal (hint : intDec s.limits (s.octetsFrom s.pos) width = .ok (p, pfx, 0))
    (hname : decodeString s.limits (s.octetsFrom (s.pos + p)) = .ok (lit, count)) :
    literalRule width insert sensitive s = namedRule insert sensitive s (p + count) (.literal lit) := by
  simp only [literalRule, hint, except_ok_bind, if_pos, namedRule, resolveName]
  cases htext : literalText lit with
  | error e => simp only [strDec_of_text_error hname htext, except_error_bind]
  | ok text =>
    simp only [strDec_of_text hname htext]
    rfl

theorem indexedRule_of_index_error (hint : intDec s.limits (s.octetsFrom s.pos) indexedWidth = .error e) :
    indexedRule s = .error e := by
  rw [indexedRule, hint]
  rfl

/-- Index 0, which the rule tests first, is one at which `GET` finds no entry (45_dispatch R238, 44_tables R210). -/
theorem indexedRule_of_get_error (hint : intDec s.limits (s.octetsFrom s.pos) indexedWidth = .ok (p, pfx, index))
    (hget : s.table.get index = .error e) : indexedRule s = .error e := by
  simp only [indexedRule, hint, except_ok_bind, hget]
  split
  · rw [Table.get_error hget]
    rfl
  · rfl

theorem indexedRule_of_entry {entry : Entry}
    (hint : intDec s.limits (s.octetsFrom s.pos) indexedWidth = .ok (p, pfx, index))
    (hget : s.table.get index = .ok entry) :
    indexedRule s = .ok ((s.advance p).emit ⟨entry.name, entry.value, false⟩).endField := by
  simp only [indexedRule, hint, except_ok_bind, hget]
  split
  · rename_i hzero
    cases (Table.get_of_outside (.inl hzero)).symm.trans hget
  · rfl

theorem sizeUpdateRule_of_late (hlate : s.phase ≠ .awaitingSizeUpdates) :
    sizeUpdateRule s = .error .sizeUpdateOutOfOrder := by
  rw [sizeUpdateRule, if_pos hlate]
  rfl

theorem sizeUpdateRule_of_size_error (horder : s.phase = .awaitingSizeUpdates)
    (hint : intDec s.limits (s.octetsFrom s.pos) sizeUpdateWidth = .error e) : sizeUpdateRule s = .error e := by
  rw [sizeUpdateRule, if_neg (not_not.2 horder), hint]
  rfl

theorem sizeUpdateRule_of_lt (horder : s.phase = .awaitingSizeUpdates)
    (hint : intDec s.limits (s.octetsFrom s.pos) sizeUpdateWidth = .ok (p, pfx, new)) (hlarge : s.protoMax < new) :
    sizeUpdateRule s = .error .sizeUpdateTooLarge := by
  rw [sizeUpdateRule, if_neg (not_not.2 horder), hint]
  exact if_pos hlarge

theorem sizeUpdateRule_of_le (horder : s.phase = .awaitingSizeUpdates)
    (hint : intDec s.limits (s.octetsFrom s.pos) sizeUpdateWidth = .ok (p, pfx, new)) (hnew : new ≤ s.protoMax) :
    sizeUpdateRule s = .ok ((s.advance p).endSizeUpdate new) := by
  rw [sizeUpdateRule, if_neg (not_not.2 horder), hint]
  exact if_neg (Nat.not_lt.2 hnew)

end

/-! ### What the DISP decoder answers where the first integer does not decode -/

theorem octetsFrom_head_repKind {s : State} (hlt : s.pos < s.len) :
    (s.octetsFrom s.pos).head?.map repKind = some (repKind (s.block.read s.pos)) := by
  rw [State.octetsFrom_cons s hlt]
  rfl

theorem decodeRep_of_indexed_error {lim : Limits} {bs : Octets} {e : ErrCode}
    (hkind : bs.head?.map repKind = some .indexed) (hint : intDec lim bs indexedWidth = .error e) :
    decodeRep lim bs = .error (.index e) := by
  cases bs with
  | nil => cases hkind
  | cons b tail => simp only [decodeRep, Option.some.inj hkind, hint]

theorem decodeRep_of_sizeUpdate_error {lim : Limits} {bs : Octets} {e : ErrCode}
    (hkind : bs.head?.map repKind = some .sizeUpdate) (hint : intDec lim bs sizeUpdateWidth = .error e) :
    decodeRep lim bs = .error (.newSize e) := by
  cases bs with
  | nil => cases hkind
  | cons b tail => simp only [decodeRep, Option.some.inj hkind, hint]

theorem rejectError_newSize_of_late {phase : Phase} (hlate : phase ≠ .awaitingSizeUpdates) (t : Table) (e : ErrCode) :
    rejectError phase t (.newSize e) = .sizeUpdateOutOfOrder :=
  if_neg (by simpa [sizeUpdateInOrder] using hlate)

/-! ### Decoded and executed, a representation is its rule -/

theorem runDecoded_indexed {s : State} (hkind : (s.octetsFrom s.pos).head?.map repKind = some .indexed) :
    runDecoded s (decodeRep s.limits (s.octetsFrom s.pos)) = .next (afterRule s (indexedRule s)) := by
  cases hint : intDec s.limits (s.octetsFrom s.pos) indexedWidth with
  | error e =>
    rw [decodeRep_of_indexed_error hkind hint, indexedRule_of_index_error hint]
    rfl
  | ok answer =>
    obtain ⟨p, pfx, index⟩ := answer
    rw [decodeRep_of_indexed hkind hint, runDecoded, exec_indexed]
    cases hget : s.table.get index with
    | error e =>
      rw [execIndexed_of_error (s := s.advance p) hget, indexedRule_of_get_error hint hget]
      rfl
    | ok entry =>
      rw [execIndexed_of_entry (s := s.advance p) hget, indexedRule_of_entry hint hget]
      rfl

/-- `SIZEUPD` (45_dispatch R244): out of order, that is the error whether its integer decodes or not. -/
theorem runDecoded_sizeUpdate {s : State} (hkind : (s.octetsFrom s.pos).head?.map repKind = some .sizeUpdate) :
    runDecoded s (decodeRep s.limits (s.octetsFrom s.pos)) = .next (afterRule s (sizeUpdateRule s)) := by
  cases hint : intDec s.limits (s.octetsFrom s.pos) sizeUpdateWidth with
  | error e =>
    rw [decodeRep_of_sizeUpdate_error hkind hint, runDecoded]
    by_cases horder : s.phase = .awaitingSizeUpdates
    · rw [sizeUpdateRule_of_size_error horder hint, horder]
      rfl
    · rw [sizeUpdateRule_of_late horder, rejectError_newSize_of_late horder s.table e]
      rfl
  | ok answer =>
    obtain ⟨p, pfx, new⟩ := answer
    rw [decodeRep_of_sizeUpdate hkind hint, runDecoded, exec_sizeupd]
    rcases execSizeupd_cases new (s.advance p) with ⟨hlate, hexec⟩ | ⟨horder, hlarge, hexec⟩ | ⟨horder, hnew, hexec⟩
    · rw [hexec, sizeUpdateRule_of_late (s := s) hlate]
      rfl
    · rw [hexec, sizeUpdateRule_of_lt (s := s) horder hint hlarge]
      rfl
    · rw [hexec, sizeUpdateRule_of_le (s := s) horder hint hnew]
      rfl

/-- A literal from its value on (45_dispatch R239 steps 2 to 6): the error of its name, then that of its value, whether
the value fails to decode or its payload does (60_exceptions R332). -/
theorem runDecoded_decodeValue (s : State) (kind : LiteralKind) (name : NameRef) (p : Nat) :
    runDecoded s (decodeValue s.limits (s.octetsFrom s.pos) kind name p) =
      .next (afterRule s (namedRule (kind == .incremental) (kind == .never) s p name)) := by
  rw [decodeValue, State.octetsFrom_drop, namedRule]
  cases hvalue : decodeString s.limits (s.octetsFrom (s.pos + p)) with
  | error e =>
    simp only [runDecoded, rejectError]
    cases hname : resolveName s.table name with
    | error e' => rfl
    | ok text =>
      rw [except_ok_bind, valueRule, strDec_of_error hvalue]
      rfl
  | ok answer =>
    obtain ⟨value, count⟩ := answer
    simp only [runDecoded, exec_literalInstr]
    cases hname : resolveName s.table name with
    | error e =>
      rw [literalBody_of_name_error (s := s.advance (p + count)) _ _ _ hname]
      rfl
    | ok n =>
      rw [except_ok_bind, valueRule]
      cases htext : literalText value with
      | error e =>
        rw [literalBody_of_value_error (s := s.advance (p + count)) _ _ hname htext, strDec_of_text_error hvalue htext]
        rfl
      | ok v =>
        rw [literalBody_of_texts (s := s.advance (p + count)) _ _ hname htext, strDec_of_text hvalue htext]
        rfl

/-- `LIT` (45_dispatch R239): by whether the name is an index or a literal of its own. -/
theorem runDecoded_literal (s : State) (kind : LiteralKind) :
    runDecoded s (decodeLiteral s.limits (s.octetsFrom s.pos) kind) =
      .next (afterRule s (literalRule (literalWidth kind) (kind == .incremental) (kind == .never) s)) := by
  rw [decodeLiteral]
  cases hint : intDec s.limits (s.octetsFrom s.pos) (literalWidth kind) with
  | error e =>
    rw [literalRule_of_index_error _ _ hint]
    rfl
  | ok answer =>
    obtain ⟨p, pfx, index⟩ := answer
    by_cases hindex : index = 0
    · subst hindex
      simp only [if_pos, State.octetsFrom_drop]
      cases hname : decodeString s.limits (s.octetsFrom (s.pos + p)) with
      | error e =>
        rw [literalRule_of_name_error _ _ hint hname]
        rfl
      | ok answer =>
        obtain ⟨lit, count⟩ := answer
        rw [literalRule_of_literal _ _ hint hname]
        exact runDecoded_decodeValue s kind (.literal lit) (p + count)
    · simp only [if_neg hindex]
      rw [literalRule_of_byIndex _ _ hint hindex]
      exact runDecoded_decodeValue s kind (.byIndex index) p

theorem runDecoded_eq_ruleOf {s : State} {kind : RepKind}
    (hkind : (s.octetsFrom s.pos).head?.map repKind = some kind) :
    runDecoded s (decodeRep s.limits (s.octetsFrom s.pos)) = .next (afterRule s (ruleOf s kind)) := by
  cases kind with
  | indexed => exact runDecoded_indexed hkind
  | literal kind =>
    rw [decodeRep_of_literal hkind]
    exact runDecoded_literal s kind
  | sizeUpdate => exact runDecoded_sizeUpdate hkind

/-- Settles O54: the decoder and the rule take the same branch on the first octet, and each branch agrees. -/
theorem representationStepFollowsItsRule : Obligations.RepresentationStepFollowsItsRule := by
  unfold Obligations.RepresentationStepFollowsItsRule
  intro s hrun hlt
  rw [step_run_of_lt hrun hlt, runDecoded_eq_ruleOf (octetsFrom_head_repKind hlt), stepRule_eq_ruleOf]

/-! ### Every run ends -/

theorem exists_step_of_run {s : State} (hrun : s.activity = .run) : ∃ t, step s = .next t := by
  rcases Nat.lt_or_ge s.pos s.len with hlt | hend
  · exact ⟨_, representationStepFollowsItsRule s hrun hlt⟩
  · exact ⟨_, step_run_of_le hrun hend⟩

/-- A step of a run ends it, or consumes octets of its block. -/
theorem RunStep.ends_or_consumes {s t : State} (h : RunStep s t) (hrun : s.activity = .run) :
    t.activity = .idle ∨ t.activity = .run ∧ s.pos < t.pos ∧ t.pos ≤ t.len ∧ t.len = s.len := by
  cases h with
  | finished => exact .inl rfl
  | raised => exact .inl rfl
  | field n header inserts hn hle => exact .inr ⟨hrun, Nat.lt_add_of_pos_right hn, hle, rfl⟩
  | sizeUpdate n new hn hle => exact .inr ⟨hrun, Nat.lt_add_of_pos_right hn, hle, rfl⟩

theorem run_ends {s : State} (left : Nat) (hrun : s.activity = .run) (hpos : s.pos ≤ s.len)
    (hleft : s.len - s.pos ≤ left) :
    ∃ k ≤ left + 1, ∃ t : State, Host.Core.run Sys2Proof.core k s = .next t ∧ t.activity = .idle := by
  induction left generalizing s with
  | zero => exact ⟨1, le_rfl, _, run_succ_of_step (step_run_of_le hrun (by omega)) 0, rfl⟩
  | succ left ih =>
    obtain ⟨t, hstep⟩ := exists_step_of_run hrun
    rcases (runStep_of_step hrun hstep).ends_or_consumes hrun with hidle | ⟨hgoesOn, hlt, hle, hlen⟩
    · exact ⟨1, by omega, t, run_succ_of_step hstep 0, hidle⟩
    · obtain ⟨k, hk, u, hends, hidle⟩ := ih hgoesOn hle (by omega)
      exact ⟨k + 1, by omega, u, (run_succ_of_step hstep k).trans hends, hidle⟩

/-- Settles O55, by induction on the number of octets left: each step but the last consumes at least one. -/
theorem everyRunEnds : Obligations.EveryRunEnds := by
  unfold Obligations.EveryRunEnds
  intro s hrun hpos
  exact run_ends (s.len - s.pos) hrun hpos le_rfl

end Sys2Proof.Machine
end

section
/-!
SUPPORT. The host's commands (46_commands R265 to R279, 47_encoder R297): what the idle block does with the command it
takes, which commands a context refuses and when, and what the decoder's commands and the primitives answer.
-/

namespace Sys2Proof.Machine

/-! ### The idle block takes a command -/

theorem step_of_command {s : State} {c : Command} {rest : List Command} (hidle : s.activity = .idle)
    (hcommands : s.commands = c :: rest) : step s = .next (runCommand c { s with commands := rest }) := by
  rw [step_idle hidle, takeCommand, hcommands]

theorem State.answer_of_idle {s : State} (hidle : s.activity = .idle) (r : Reply) :
    s.answer r = { s with reply := some r } := by
  rw [State.answer, ← hidle]

theorem step_of_answer {s t : State} {c : Command} {rest : List Command} {r : Reply} (hidle : s.activity = .idle)
    (hcommands : s.commands = c :: rest) (hanswer : runCommand c { s with commands := rest } = t.answer r)
    (ht : t.activity = .idle) : step s = .next { t with reply := some r } := by
  rw [step_of_command hidle hcommands, hanswer, State.answer_of_idle ht]

/-- A command that only answers: the step takes it off the queue and writes no register. -/
theorem step_of_answer_only {s : State} {c : Command} {rest : List Command} {r : Reply} (hidle : s.activity = .idle)
    (hcommands : s.commands = c :: rest)
    (hanswer : runCommand c { s with commands := rest } = State.answer { s with commands := rest } r) :
    step s = .next { s with commands := rest, reply := some r } :=
  step_of_answer (t := { s with commands := rest }) hidle hcommands hanswer hidle

theorem State.perform_of_admitted {s : State} {admitted : Bool} (h : admitted = true) (after : State) :
    s.perform admitted after = after.answer .ok := if_pos h

theorem State.perform_of_not_admitted {s : State} {admitted : Bool} (h : admitted = false) (after : State) :
    s.perform admitted after = s.answer .refused := if_neg (ne_true_of_eq_false h)

/-! ### Refusals -/

/-- The commands that need a decoder context and `ERR` 0 (46_commands R269). -/
inductive NeedsHealthyDecoder : Command → Prop where
  | decode (block : Octets) : NeedsHealthyDecoder (.decDecode block)
  | setMaxSize (n : Nat) : NeedsHealthyDecoder (.decSetMaxSize n)
  | setIntValueMax (n : Nat) : NeedsHealthyDecoder (.decSetIntValueMax n)
  | setIntEncLenMax (n : Nat) : NeedsHealthyDecoder (.decSetIntEncLenMax n)
  | setStrLenMax (n : Nat) : NeedsHealthyDecoder (.decSetStrLenMax n)

/-- The commands that need an encoder context (47_encoder R297). -/
inductive NeedsEncoder : Command → Prop where
  | setMaxSize (n : Nat) : NeedsEncoder (.encSetMaxSize n)
  | indexed (h : Header) (huffman : Bool) : NeedsEncoder (.encIndexed h huffman)
  | noIndex (h : Header) (huffman : Bool) : NeedsEncoder (.encNoIndex h huffman)
  | encode (headers : List Header) : NeedsEncoder (.encEncode headers)

theorem decAdmitted_of_not_live {s : State} (h : s.decLive = false) : decAdmitted s = false := by
  rw [decAdmitted, h, Bool.false_and]

theorem decAdmitted_of_err {s : State} (h : s.err ≠ .ok) : decAdmitted s = false :=
  Bool.eq_false_iff.2 fun hadmitted => h ((decAdmitted_iff s).1 hadmitted).2

theorem NeedsHealthyDecoder.refused {c : Command} (hc : NeedsHealthyDecoder c) {s : State}
    (h : decAdmitted s = false) : runCommand c s = s.answer .refused := by
  have hand (operand : Bool) : (decAdmitted s && operand) = false := by rw [h, Bool.false_and]
  cases hc with
  | decode block => exact if_neg (ne_true_of_eq_false (hand _))
  | setMaxSize n => exact State.perform_of_not_admitted (hand _) _
  | setIntValueMax n => exact State.perform_of_not_admitted (hand _) _
  | setIntEncLenMax n => exact State.perform_of_not_admitted (hand _) _
  | setStrLenMax n => exact State.perform_of_not_admitted (hand _) _

theorem commandIntDec_of_not_live {s : State} (h : s.decLive = false) (buffer : Octets) (width : Nat) :
    commandIntDec buffer width s = s.answer .refused := by
  simp [commandIntDec, h]

theorem State.encoded_of_not_live {s : State} (h : s.encLive = false) (result : Octets × State) :
    s.encoded result = s.answer .refused := if_neg (ne_true_of_eq_false h)

theorem NeedsEncoder.refused {c : Command} (hc : NeedsEncoder c) {s : State} (h : s.encLive = false) :
    runCommand c s = s.answer .refused := by
  cases hc with
  | setMaxSize n => exact State.perform_of_not_admitted (by rw [h, Bool.false_and]) _
  | indexed header huffman => exact State.encoded_of_not_live h _
  | noIndex header huffman => exact State.encoded_of_not_live h _
  | encode headers => exact State.encoded_of_not_live h _

/-- Settles O27: an error stands in front of each of these commands, whatever its operand. -/
theorem contextCommandsAreRefusedAfterAnError : Obligations.ContextCommandsAreRefusedAfterAnError := by
  unfold Obligations.ContextCommandsAreRefusedAfterAnError
  intro s c rest hidle herr hcommands hc
  have hneeds : NeedsHealthyDecoder c := by
    rcases hc with ⟨b, rfl⟩ | ⟨n, rfl⟩ | ⟨n, rfl⟩ | ⟨n, rfl⟩ | ⟨n, rfl⟩
    exacts [.decode b, .setMaxSize n, .setIntValueMax n, .setIntEncLenMax n, .setStrLenMax n]
  exact step_of_answer_only hidle hcommands (hneeds.refused (decAdmitted_of_err herr))

/-- Settles O28: a context that does not exist refuses what needs it, and `INT.DEC` reads the decoder's limits. -/
theorem commandsBeforeInitAreRefused : Obligations.CommandsBeforeInitAreRefused := by
  unfold Obligations.CommandsBeforeInitAreRefused
  intro s c rest hidle hcommands hc
  apply step_of_answer_only hidle hcommands
  rcases hc with ⟨hlive, hc⟩ | ⟨hlive, hc⟩
  · have hneeds : NeedsHealthyDecoder c ∨ ∃ b w, c = .intDec b w := by
      rcases hc with ⟨b, rfl⟩ | ⟨n, rfl⟩ | ⟨n, rfl⟩ | ⟨n, rfl⟩ | ⟨n, rfl⟩ | hint
      exacts [.inl (.decode b), .inl (.setMaxSize n), .inl (.setIntValueMax n), .inl (.setIntEncLenMax n),
        .inl (.setStrLenMax n), .inr hint]
    rcases hneeds with hneeds | ⟨b, w, rfl⟩
    · exact hneeds.refused (decAdmitted_of_not_live hlive)
    · exact commandIntDec_of_not_live (s := { s with commands := rest }) hlive b w
  · have hneeds : NeedsEncoder c := by
      rcases hc with ⟨n, rfl⟩ | ⟨h, f, rfl⟩ | ⟨h, f, rfl⟩ | ⟨hs, rfl⟩
      exacts [.setMaxSize n, .indexed h f, .noIndex h f, .encode hs]
    exact hneeds.refused hlive

/-! ### The commands of the decoder context -/

/-- Settles O23: `DEC.INIT` looks at its operand alone, and writes every register of the context. -/
theorem decInitSetsEveryDecoderRegister : Obligations.DecInitSetsEveryDecoderRegister := by
  unfold Obligations.DecInitSetsEveryDecoderRegister
  intro s max rest hidle hcommands hmax
  exact step_of_answer (t := State.initDecoder { s with commands := rest } max) hidle hcommands
    (State.perform_of_admitted (decide_eq_true hmax) _) hidle

/-- Settles O26: the context is healthy and the operand fits, so each setter takes effect. -/
theorem decoderSettersSetTheirRegister : Obligations.DecoderSettersSetTheirRegister := by
  unfold Obligations.DecoderSettersSetTheirRegister
  intro s n rest hidle hlive herr hn
  have hadmitted : decAdmitted { s with commands := rest } = true := (decAdmitted_iff _).2 ⟨hlive, herr⟩
  have hword : (decAdmitted { s with commands := rest } && fitsWord n) = true :=
    Bool.and_eq_true_iff.2 ⟨hadmitted, (fitsWord_iff n).2 hn⟩
  have htable : (decAdmitted { s with commands := rest } && fitsTable n) = true :=
    Bool.and_eq_true_iff.2 ⟨hadmitted, (fitsTable_iff n).2 hn⟩
  refine ⟨fun hcommands => ?_, fun hcommands => ?_, fun hcommands => ?_, fun hcommands => ?_⟩
  · exact step_of_answer (t := { s with commands := rest, table := s.table.resize n }) hidle hcommands
      (State.perform_of_admitted htable _) hidle
  · exact step_of_answer (t := { s with commands := rest, intValueMax := n }) hidle hcommands
      (State.perform_of_admitted hword _) hidle
  · exact step_of_answer (t := { s with commands := rest, intEncLenMax := n }) hidle hcommands
      (State.perform_of_admitted hword _) hidle
  · exact step_of_answer (t := { s with commands := rest, strLenMax := n }) hidle hcommands
      (State.perform_of_admitted hword _) hidle

/-! ### The primitives as commands -/

theorem widthOk_iff (width : Nat) : widthOk width = true ↔ 1 ≤ width ∧ width ≤ 8 := by
  simp only [widthOk, Bool.and_eq_true, decide_eq_true_iff]

/-- Admitted, `INT.DEC` answers the triple or the error of the operation (46_commands R274, R278). -/
theorem commandIntDec_of_admitted {s : State} {buffer : Octets} {width : Nat} (hlive : s.decLive = true)
    (hlen : buffer.length < Config.wordLimit) (hwidth : 1 ≤ width ∧ width ≤ 8) :
    commandIntDec buffer width s =
      s.answer (primitiveReply (fun r => .integer r.1 r.2.1 r.2.2) (intDec s.limits buffer width)) := by
  have hadmitted : (s.decLive && fitsWord buffer.length && widthOk width) = true := by
    rw [hlive, (fitsWord_iff _).2 hlen, (widthOk_iff _).2 hwidth]
    rfl
  rw [commandIntDec, if_pos hadmitted]
  cases intDec s.limits buffer width with
  | error e => rfl
  | ok triple => rfl

/-- Admitted, `INT.ENC` answers its octets (46_commands R275). -/
theorem commandIntEnc_of_admitted {s : State} {v width : Nat} {flags : Octet} (hv : v < Config.wordLimit)
    (hwidth : 1 ≤ width ∧ width ≤ 8) (hflags : flags &&& BitVec.ofNat 8 (prefixMax width) = 0) :
    commandIntEnc v width flags s = s.answer (.octets (intEnc v width flags)) := by
  have hadmitted : (fitsWord v && widthOk width && flags &&& BitVec.ofNat 8 (prefixMax width) == 0) = true := by
    rw [(fitsWord_iff _).2 hv, (widthOk_iff _).2 hwidth, hflags]
    rfl
  rw [commandIntEnc, if_pos hadmitted]

/-- Settles O29: none of the three writes a register; `INT.DEC` alone reads one, the limits. -/
theorem primitiveCommandsAnswerAndChangeNothing : Obligations.PrimitiveCommandsAnswerAndChangeNothing := by
  unfold Obligations.PrimitiveCommandsAnswerAndChangeNothing
  intro s rest hidle
  refine ⟨fun buffer width hcommands hlive hlen hpos hle => ?_, fun v width flags hcommands hv hpos hle hflags => ?_,
    fun text hcommands => ?_⟩
  · exact step_of_answer_only hidle hcommands
      (commandIntDec_of_admitted (s := { s with commands := rest }) hlive hlen ⟨hpos, hle⟩)
  · exact step_of_answer_only hidle hcommands (commandIntEnc_of_admitted hv ⟨hpos, hle⟩ hflags)
  · exact step_of_answer_only hidle hcommands rfl

end Sys2Proof.Machine
end

section
/-!
SUPPORT. The encoder's operations: the length of `HUFF.ENC` (47_encoder R294), `STR.DEC` step by step and of `STR.ENC`
(41_string R151, 47_encoder R303), and the lookup over the joint table (47_encoder R292).
-/

namespace Sys2Proof.Machine

/-! ### The length of `HUFF.ENC` -/

theorem stringBits_length (s : Octets) : (stringBits s).length = (s.map fun x => (huffCodeOf x.toNat).len).sum := by
  simp only [stringBits, List.length_flatMap, codeBits_length]

theorem padBits_length (bits : List Bool) : (padBits bits).length = (bits.length + 7) / 8 * 8 := by
  simp only [padBits, List.length_append, List.length_replicate]
  omega

/-- Settles O45: the code bits, padded to whole octets, are packed eight to an octet. -/
theorem huffEncLength : Obligations.HuffEncLength := by
  unfold Obligations.HuffEncLength
  intro s
  have hpacked := length_packBits (padBits_length_dvd (stringBits s))
  rw [padBits_length, stringBits_length] at hpacked
  rw [huffEnc_eq]
  omega

/-! ### `STR.DEC` step by step -/

section
variable {lim : Limits} {bs : Octets} {q len : Nat} {pfx : Octet}

theorem decodeString_of_length_error {e : ErrCode} (hint : intDec lim bs stringWidth = .error e) :
    decodeString lim bs = .error e := by
  rw [decodeString, hint]

theorem decodeString_of_too_long (hint : intDec lim bs stringWidth = .ok (q, pfx, len)) (hlong : lim.strLenMax < len) :
    decodeString lim bs = .error .stringLiteralLengthTooLong := by
  simp only [decodeString, hint, if_pos hlong]

theorem decodeString_of_truncated (hint : intDec lim bs stringWidth = .ok (q, pfx, len)) (hlen : len ≤ lim.strLenMax)
    (hshort : bs.length - q < len) : decodeString lim bs = .error .truncated := by
  simp only [decodeString, hint, if_neg (Nat.not_lt.2 hlen), if_pos hshort]

theorem decodeString_of_payload (hint : intDec lim bs stringWidth = .ok (q, pfx, len)) (hlen : len ≤ lim.strLenMax)
    (hpresent : len ≤ bs.length - q) :
    decodeString lim bs = .ok (⟨hFlag pfx, (bs.drop q).take len⟩, q + len) := by
  simp only [decodeString, hint, if_neg (Nat.not_lt.2 hlen), if_neg (Nat.not_lt.2 hpresent)]

end

/-! ### `STR.DEC` of `STR.ENC` -/

/-- The literal the encoder makes of a string stands for that string, by the Huffman round trip (42_huffman R183). -/
theorem literalText_literalOf (text : Octets) (huffman : Bool) : literalText (literalOf text huffman) = .ok text := by
  cases huffman with
  | false => rfl
  | true => exact huffmanRoundTrip text

theorem strDec_encodeString {lim : Limits} {lit : StrLit} {text : Octets} (rest : Octets)
    (hadmits : lim.admitsString lit = true) (htext : literalText lit = .ok text) :
    strDec lim (encodeString lit ++ rest) = .ok ((encodeString lit).length, text) :=
  strDec_of_text (decodeString_encodeString rest hadmits) htext

/-- Settles O40: the round trip is that of the literal's frame and of its text; the steps are those of the frame. -/
theorem stringRoundTrip : Obligations.StringRoundTrip := by
  unfold Obligations.StringRoundTrip
  refine ⟨fun lim s huffman rest hstr hvalue henc => ?_, fun lim bs => ⟨fun e hint => ?_, fun q len pfx hint => ?_⟩⟩
  · have hadmits : lim.admitsString (literalOf s huffman) = true :=
      (admitsString_iff lim _).2 ⟨hstr, (admitsInt_iff lim _ _).2 ⟨hvalue, henc⟩⟩
    exact strDec_encodeString rest hadmits (literalText_literalOf s huffman)
  · exact strDec_of_error (decodeString_of_length_error hint)
  · refine ⟨fun hlong => strDec_of_error (decodeString_of_too_long hint hlong),
      fun hlen hshort => strDec_of_error (decodeString_of_truncated hint hlen hshort), fun hlen hpresent hraw => ?_,
      fun hlen hpresent hhuff => ?_⟩
    · have hframe := decodeString_of_payload hint hlen hpresent
      rw [hFlag, hraw] at hframe
      exact strDec_of_text hframe (literalText_raw _)
    · have hframe := decodeString_of_payload hint hlen hpresent
      rw [hFlag, hhuff] at hframe
      exact ⟨fun text htext => strDec_of_text hframe htext, fun e herror => strDec_of_text_error hframe herror⟩

/-! ### The joint table in index order -/

/-- `GET` reads the list that the lookup searches, index 1 first (44_tables R210, 47_encoder R292). -/
theorem Table.get_succ_eq_ok_iff {t : Table} {k : Nat} {e : Entry} :
    t.get (k + 1) = .ok e ↔ (jointEntries t)[k]? = some e := by
  have hcount := staticTable_length
  rw [jointEntries]
  rcases Nat.lt_or_ge k Config.staticCount with hstatic | hdynamic
  · have hk : k < staticTable.length := by omega
    rw [Table.get_of_static (by omega) (by omega), List.getElem?_append_left hk, Nat.add_sub_cancel,
      List.getD_eq_getElem _ _ hk, List.getElem?_eq_getElem hk, Except.ok.injEq, Option.some.injEq]
  · rw [List.getElem?_append_right (by omega), hcount]
    rcases Nat.lt_or_ge (k - Config.staticCount) t.entries.length with hk | hk
    · rw [Table.get_of_dynamic (by omega) (by omega), Nat.sub_right_comm, Nat.add_sub_cancel,
        List.getD_eq_getElem _ _ hk, List.getElem?_eq_getElem hk, Except.ok.injEq, Option.some.injEq]
    · rw [Table.get_of_outside (.inr (by omega)), List.getElem?_eq_none hk]
      exact ⟨nofun, nofun⟩

theorem Table.exists_succ_of_get {t : Table} {i : Nat} {e : Entry} (h : t.get i = .ok e) : ∃ k, i = k + 1 := by
  cases i with
  | zero => cases (Table.get_of_outside (.inl rfl)).symm.trans h
  | succ k => exact ⟨k, rfl⟩

/-- What a search of the joint table finds is an entry that passes the test, at the smallest index there is. -/
theorem get_of_findIdx?_some {t : Table} {p : Entry → Bool} {k : Nat} (h : (jointEntries t).findIdx? p = some k) :
    (∃ e, t.get (k + 1) = .ok e ∧ p e = true) ∧ ∀ j e, t.get j = .ok e → p e = true → k + 1 ≤ j := by
  obtain ⟨hk, hpk, hsmallest⟩ := List.findIdx?_eq_some_iff_getElem.1 h
  refine ⟨⟨_, Table.get_succ_eq_ok_iff.2 (List.getElem?_eq_getElem hk), hpk⟩, fun j e hget hpe => ?_⟩
  obtain ⟨j, rfl⟩ := Table.exists_succ_of_get hget
  obtain ⟨_, hje⟩ := List.getElem?_eq_some_iff.1 (Table.get_succ_eq_ok_iff.1 hget)
  by_contra hlt
  exact hsmallest j (by omega) (hje ▸ hpe)

theorem get_of_findIdx?_none {t : Table} {p : Entry → Bool} (h : (jointEntries t).findIdx? p = none) {j : Nat}
    {e : Entry} (hget : t.get j = .ok e) : p e = false := by
  obtain ⟨j, rfl⟩ := Table.exists_succ_of_get hget
  exact List.findIdx?_eq_none_iff.1 h e (List.mem_of_getElem? (Table.get_succ_eq_ok_iff.1 hget))

/-! ### What the lookups answer -/

/-- The entry is the one looked up. -/
def matchesEntry (name value : Octets) (e : Entry) : Bool := e.name == name && e.value == value

/-- The entry has the name looked up. -/
def matchesName (name : Octets) (e : Entry) : Bool := e.name == name

theorem matchesEntry_iff {name value : Octets} {e : Entry} : matchesEntry name value e = true ↔ e = ⟨name, value⟩ := by
  obtain ⟨n, v⟩ := e
  simp only [matchesEntry, Bool.and_eq_true, beq_iff_eq, Entry.mk.injEq]

theorem matchesName_iff {name : Octets} {e : Entry} : matchesName name e = true ↔ ∃ value, e = ⟨name, value⟩ := by
  obtain ⟨n, v⟩ := e
  simp only [matchesName, beq_iff_eq, Entry.mk.injEq, exists_and_left, exists_eq', and_true]

/-- All that `LOOKUP` can answer, as the two searches of the joint table (47_encoder R292). -/
theorem lookup_cases (t : Table) (name value : Octets) :
    (∃ k, (jointEntries t).findIdx? (matchesEntry name value) = some k ∧ lookup t name value = .full (k + 1)) ∨
    (∃ k, (jointEntries t).findIdx? (matchesEntry name value) = none ∧
      (jointEntries t).findIdx? (matchesName name) = some k ∧ lookup t name value = .nameOnly (k + 1)) ∨
    ((jointEntries t).findIdx? (matchesName name) = none ∧ lookup t name value = .none) := by
  cases hfull : (jointEntries t).findIdx? (matchesEntry name value) with
  | some k =>
    refine .inl ⟨k, rfl, ?_⟩
    unfold matchesEntry at hfull
    rw [lookup, hfull]
  | none =>
    unfold matchesEntry at hfull
    cases hname : (jointEntries t).findIdx? (matchesName name) with
    | some k =>
      refine .inr (.inl ⟨k, rfl, rfl, ?_⟩)
      unfold matchesName at hname
      simp only [lookup, hfull, hname]
    | none =>
      refine .inr (.inr ⟨rfl, ?_⟩)
      unfold matchesName at hname
      simp only [lookup, hfull, hname]

/-- Settles O46: a search of the joint table answers the smallest index that passes its test, or that none does. -/
theorem lookupFindsTheSmallestIndex : Obligations.LookupFindsTheSmallestIndex := by
  unfold Obligations.LookupFindsTheSmallestIndex
  intro t name value
  rcases lookup_cases t name value with ⟨k, hfull, hlookup⟩ | ⟨k, hnone, hname, hlookup⟩ | ⟨hnone, hlookup⟩ <;>
    rw [hlookup]
  · obtain ⟨⟨e, hget, he⟩, hsmallest⟩ := get_of_findIdx?_some hfull
    rw [matchesEntry_iff.1 he] at hget
    exact ⟨hget, fun j hj => hsmallest j _ hj (matchesEntry_iff.2 rfl)⟩
  · obtain ⟨⟨e, hget, he⟩, hsmallest⟩ := get_of_findIdx?_some hname
    obtain ⟨other, rfl⟩ := matchesName_iff.1 he
    exact ⟨⟨other, hget⟩, fun j o hj => hsmallest j _ hj (matchesName_iff.2 ⟨o, rfl⟩),
      fun j hj => Bool.false_ne_true ((get_of_findIdx?_none hnone hj).symm.trans (matchesEntry_iff.2 rfl))⟩
  · exact fun j other hj =>
      Bool.false_ne_true ((get_of_findIdx?_none hnone hj).symm.trans (matchesName_iff.2 ⟨other, rfl⟩))

end Sys2Proof.Machine
end

section
/-!
SUPPORT. The field rule `ENC.FIELD` (47_encoder R295): the representation it emits and whether it inserts, in each case
of the flag, the lookup and the policy; and the commands of the encoder context (R290, R291, R296).
-/

namespace Sys2Proof.Machine

/-! ### What `ENC.FIELD` emits, case by case -/

/-- The literal form of a policy (47_encoder R295 step 3b). -/
def policyKind : EncodePolicy → LiteralKind
  | .incremental => .incremental
  | .notIndexed => .without

section
variable {t : Table} {h : Header} {i : Nat} (huffman : Bool) (policy : EncodePolicy)

theorem fieldInstr_of_static (hsensitive : h.sensitive = true) (hname : staticName h.name = some i) :
    fieldInstr t h huffman policy = literalInstr .never (.byIndex i) (literalOf h.value huffman) := by
  simp only [fieldInstr, hsensitive, hname, if_pos, literalInstr]

theorem fieldInstr_of_not_static (hsensitive : h.sensitive = true) (hname : staticName h.name = none) :
    fieldInstr t h huffman policy =
      literalInstr .never (.literal (literalOf h.name huffman)) (literalOf h.value huffman) := by
  simp only [fieldInstr, hsensitive, hname, if_pos, literalInstr]

theorem fieldInstr_of_full (hplain : h.sensitive = false) (hfull : lookup t h.name h.value = .full i) :
    fieldInstr t h huffman policy = .indexed i := by
  simp only [fieldInstr, hplain, hfull, Bool.false_eq_true, if_false]

theorem fieldInstr_of_nameOnly (hplain : h.sensitive = false) (hname : lookup t h.name h.value = .nameOnly i) :
    fieldInstr t h huffman policy =
      literalInstr (policyKind policy) (.byIndex i) (literalOf h.value huffman) := by
  simp only [fieldInstr, hplain, hname, Bool.false_eq_true, if_false]
  cases policy <;> rfl

theorem fieldInstr_of_none (hplain : h.sensitive = false) (hnone : lookup t h.name h.value = .none) :
    fieldInstr t h huffman policy =
      literalInstr (policyKind policy) (.literal (literalOf h.name huffman)) (literalOf h.value huffman) := by
  simp only [fieldInstr, hplain, hnone, Bool.false_eq_true, if_false]
  cases policy <;> rfl

theorem fieldInserts_of_sensitive (hsensitive : h.sensitive = true) : fieldInserts t h policy = false := by
  simp only [fieldInserts, hsensitive, Bool.not_true, Bool.false_and]

theorem fieldInserts_of_full (hfull : lookup t h.name h.value = .full i) : fieldInserts t h policy = false := by
  simp only [fieldInserts, hfull, Bool.and_false]

theorem fieldInserts_of_nameOnly (hplain : h.sensitive = false) (hname : lookup t h.name h.value = .nameOnly i) :
    fieldInserts t h policy = (policyKind policy == .incremental) := by
  simp only [fieldInserts, hplain, hname, Bool.not_false, Bool.true_and, Bool.and_true]
  cases policy <;> rfl

theorem fieldInserts_of_none (hplain : h.sensitive = false) (hnone : lookup t h.name h.value = .none) :
    fieldInserts t h policy = (policyKind policy == .incremental) := by
  simp only [fieldInserts, hplain, hnone, Bool.not_false, Bool.true_and, Bool.and_true]
  cases policy <;> rfl

end

/-- Settles O32: whether `STATIC_NAME` finds the name says which name operand it is. -/
theorem sensitiveHeadersAreNeverIndexedByTheEncoder : Obligations.SensitiveHeadersAreNeverIndexedByTheEncoder := by
  unfold Obligations.SensitiveHeadersAreNeverIndexedByTheEncoder
  intro s h huffman policy hsensitive
  refine ⟨?_, ?_⟩
  · rw [encField, fieldInserts_of_sensitive policy hsensitive]
    rfl
  · cases hname : staticName h.name with
    | some i => exact fieldInstr_of_static huffman policy hsensitive hname
    | none => exact fieldInstr_of_not_static huffman policy hsensitive hname

/-! ### The encoder's registers are all that the encode path reads and writes -/

/-- The table after `ENC.FIELD` (47_encoder R295 step 3e). -/
def tableAfterField (t : Table) (h : Header) (policy : EncodePolicy) : Table :=
  if fieldInserts t h policy then t.add ⟨h.name, h.value⟩ else t

theorem encField_snd (h : Header) (huffman : Bool) (policy : EncodePolicy) (s : State) :
    (encField h huffman policy s).2 = { s with pending := false, eTable := tableAfterField s.eTable h policy } := rfl

/-- Two states with the same encoder registers encode a header list alike, and nothing but these registers is written
(47_encoder R295, R296). -/
theorem encFields_congr (hs : List Header) {s t : State} (htable : t.eTable = s.eTable)
    (hpending : t.pending = s.pending) :
    encFields hs t = ((encFields hs s).1,
      { t with eTable := (encFields hs s).2.eTable, pending := (encFields hs s).2.pending }) := by
  induction hs generalizing s t with
  | nil => simp only [encFields, ← htable, ← hpending]
  | cons h hs ih =>
    have hfirst : (encField h true .incremental t).1 = (encField h true .incremental s).1 := by
      simp only [encField, pendingUpdate, htable, hpending]
    have hrest := ih (s := (encField h true .incremental s).2) (t := (encField h true .incremental t).2)
      (by rw [encField_snd, encField_snd, htable]) rfl
    rw [encFields, encFields, hfirst, hrest]
    rfl

/-! ### The commands of the encoder context -/

/-- Settles O30: the operand fits, and the second command finds its context. -/
theorem encoderContextCommandsSetTheirRegisters : Obligations.EncoderContextCommandsSetTheirRegisters := by
  unfold Obligations.EncoderContextCommandsSetTheirRegisters
  intro s n rest hidle hn
  have hfits := (fitsTable_iff n).2 hn
  refine ⟨fun hcommands => ?_, fun hcommands hlive => ?_⟩
  · exact step_of_answer (t := State.initEncoder { s with commands := rest } n) hidle hcommands
      (State.perform_of_admitted hfits _) hidle
  · exact step_of_answer (t := { s with commands := rest, eTable := s.eTable.resize n, pending := true }) hidle
      hcommands (State.perform_of_admitted (Bool.and_eq_true_iff.2 ⟨hlive, hfits⟩) _) hidle

theorem State.encoded_of_live {s : State} (hlive : s.encLive = true) (result : Octets × State) :
    s.encoded result = result.2.answer (.octets result.1) := if_pos hlive

/-- The command that encodes one header under a policy (47_encoder R296). -/
def fieldCommand (policy : EncodePolicy) (h : Header) (huffman : Bool) : Command :=
  match policy with
  | .incremental => .encIndexed h huffman
  | .notIndexed => .encNoIndex h huffman

/-- `ENC.INDEXED` and `ENC.NOINDEX` answer the pending size update and the representation of `ENC.FIELD`. -/
theorem step_of_fieldCommand {s : State} {h : Header} {huffman : Bool} {policy : EncodePolicy} {rest : List Command}
    (hidle : s.activity = .idle) (hlive : s.encLive = true)
    (hcommands : s.commands = fieldCommand policy h huffman :: rest) :
    step s = .next { s with
      commands := rest
      pending := false
      eTable := tableAfterField s.eTable h policy
      reply := some (.octets (pendingUpdate s ++ encode (fieldInstr s.eTable h huffman policy))) } := by
  have hanswer : runCommand (fieldCommand policy h huffman) { s with commands := rest } =
      State.answer { s with commands := rest, pending := false, eTable := tableAfterField s.eTable h policy }
        (.octets (pendingUpdate s ++ encode (fieldInstr s.eTable h huffman policy))) := by
    cases policy <;> exact State.encoded_of_live (s := { s with commands := rest }) hlive _
  exact step_of_answer hidle hcommands hanswer hidle

/-- `ENC.ENCODE` answers the octets of the fields, in the state after the last of them. -/
theorem step_of_encEncode {s : State} {hs : List Header} {rest : List Command} (hidle : s.activity = .idle)
    (hlive : s.encLive = true) (hcommands : s.commands = .encEncode hs :: rest) :
    step s = .next { s with
      commands := rest
      eTable := (encFields hs s).2.eTable
      pending := (encFields hs s).2.pending
      reply := some (.octets (encFields hs s).1) } := by
  have hfields := encFields_congr hs (s := s) (t := { s with commands := rest }) rfl rfl
  have hanswer := State.encoded_of_live (s := { s with commands := rest }) hlive
    (encFields hs { s with commands := rest })
  rw [hfields] at hanswer
  exact step_of_answer hidle hcommands ((congrArg _ hfields).trans hanswer) hidle

/-- What `ENC.ENCODE` leaves to do after its first field is `ENC.ENCODE` of the others (47_encoder R296). -/
theorem encFields_cons (h : Header) (hs : List Header) {s t : State}
    (htable : t.eTable = tableAfterField s.eTable h .incremental) (hpending : t.pending = false) :
    encFields (h :: hs) s = ((encField h true .incremental s).1 ++ (encFields hs t).1,
      { s with eTable := (encFields hs t).2.eTable, pending := (encFields hs t).2.pending }) := by
  rw [encFields, encFields_congr hs (s := t) (t := (encField h true .incremental s).2) htable.symm hpending.symm]
  rfl

/-- Settles O31: the commands answer what `ENC.FIELD` emits, and the clauses are its cases. -/
theorem encodeCommandsAnswerTheFieldOctets : Obligations.EncodeCommandsAnswerTheFieldOctets := by
  unfold Obligations.EncodeCommandsAnswerTheFieldOctets
  refine ⟨fun s h huffman rest policy hidle hlive hcommands => ?_, fun s rest hidle hlive hcommands => ?_,
    fun s t u h hs rest first more hidle hlive hcommands hfirst hreply hmore hreply' => ?_⟩
  · have hstep := step_of_fieldCommand hidle hlive hcommands
    rw [tableAfterField] at hstep
    refine ⟨fun i hsens hname => ?_, fun hsens hname => ?_, fun i hplain hfull => ?_, fun i hplain hname hpolicy => ?_,
      fun i hplain hname hpolicy => ?_, fun hplain hnone hpolicy => ?_, fun hplain hnone hpolicy => ?_⟩
    · rwa [fieldInstr_of_static huffman policy hsens hname, fieldInserts_of_sensitive policy hsens] at hstep
    · rwa [fieldInstr_of_not_static huffman policy hsens hname, fieldInserts_of_sensitive policy hsens] at hstep
    · rwa [fieldInstr_of_full huffman policy hplain hfull, fieldInserts_of_full policy hfull] at hstep
    · subst hpolicy
      rwa [fieldInstr_of_nameOnly huffman _ hplain hname, fieldInserts_of_nameOnly _ hplain hname] at hstep
    · subst hpolicy
      rwa [fieldInstr_of_nameOnly huffman _ hplain hname, fieldInserts_of_nameOnly _ hplain hname] at hstep
    · subst hpolicy
      rwa [fieldInstr_of_none huffman _ hplain hnone, fieldInserts_of_none _ hplain hnone] at hstep
    · subst hpolicy
      rwa [fieldInstr_of_none huffman _ hplain hnone, fieldInserts_of_none _ hplain hnone] at hstep
  · exact step_of_encEncode hidle hlive hcommands
  · have ht := Host.Outcome.next.inj ((step_of_fieldCommand (s := { s with commands := .encIndexed h true :: rest })
      (policy := .incremental) hidle hlive rfl).symm.trans hfirst)
    have hcons := encFields_cons h hs (s := s) (t := { t with commands := .encEncode hs :: rest }) (by rw [← ht])
      (by rw [← ht])
    have hu := Host.Outcome.next.inj ((step_of_encEncode (s := { t with commands := .encEncode hs :: rest })
      (by rw [← ht]; exact hidle) (by rw [← ht]; exact hlive) rfl).symm.trans hmore)
    rw [step_of_encEncode hidle hlive hcommands, hcons]
    subst hu
    cases hreply'
    subst ht
    cases hreply
    rfl

end Sys2Proof.Machine
end

section
/-!
SUPPORT. The codec round trip (47_encoder R305): a run over what `ENC.FIELD` emits reads the header back and does to the
decoder's table what the encoder did to its own; and so, field by field, over the block of `ENC.ENCODE`.
-/

namespace Sys2Proof.Machine

/-! ### What a representation that `ENC.FIELD` emits stands for -/

theorem get_of_lookup_full {t : Table} {name value : Octets} {i : Nat} (h : lookup t name value = .full i) :
    t.get i = .ok ⟨name, value⟩ := by
  have hspec := lookupFindsTheSmallestIndex t name value
  rw [h] at hspec
  exact hspec.1

theorem get_of_lookup_nameOnly {t : Table} {name value : Octets} {i : Nat} (h : lookup t name value = .nameOnly i) :
    ∃ other, t.get i = .ok ⟨name, other⟩ := by
  have hspec := lookupFindsTheSmallestIndex t name value
  rw [h] at hspec
  exact hspec.1

/-- A static name index names that entry in every table, `STATIC` being the front of the joint space (20_memory R63). -/
theorem get_of_staticName {name : Octets} {i : Nat} (h : staticName name = some i) (t : Table) :
    ∃ other, t.get i = .ok ⟨name, other⟩ := by
  obtain ⟨k, hfind, rfl⟩ := Option.map_eq_some_iff.1 h
  obtain ⟨hk, hname, _⟩ := List.findIdx?_eq_some_iff_getElem.1 hfind
  refine ⟨staticTable[k].value, Table.get_succ_eq_ok_iff.2 ?_⟩
  rw [jointEntries, List.getElem?_append_left hk, List.getElem?_eq_getElem hk, ← beq_iff_eq.1 hname]

/-- A name operand that stands for a name: an index of an entry with that name, or a literal of it. No such index is
0, which would say that a literal follows (30_encoding R93). -/
inductive NameDenotes (t : Table) (name : Octets) : NameRef → Prop where
  | byIndex {index : Nat} {other : Octets} (hget : t.get index = .ok ⟨name, other⟩) :
      NameDenotes t name (.byIndex index)
  | literal {lit : StrLit} (htext : literalText lit = .ok name) : NameDenotes t name (.literal lit)

theorem NameDenotes.resolveName_eq {t : Table} {name : Octets} {ref : NameRef} (h : NameDenotes t name ref) :
    resolveName t ref = .ok name := by
  cases h with
  | byIndex hget => simp only [resolveName, hget]
  | literal htext => exact htext

/-- All that `ENC.FIELD` can emit: the index of the header, not a sensitive one; or a literal of its name and its value,
sensitive if the header is, and inserting if the encoder inserts (47_encoder R295). -/
theorem fieldInstr_cases (t : Table) (h : Header) (huffman : Bool) (policy : EncodePolicy) :
    (∃ index, fieldInstr t h huffman policy = .indexed index ∧ t.get index = .ok ⟨h.name, h.value⟩ ∧
      h.sensitive = false ∧ fieldInserts t h policy = false) ∨
    (∃ kind name, fieldInstr t h huffman policy = literalInstr kind name (literalOf h.value huffman) ∧
      NameDenotes t h.name name ∧ h.sensitive = (kind == .never) ∧
      fieldInserts t h policy = (kind == .incremental)) := by
  have hnewName := NameDenotes.literal (t := t) (literalText_literalOf h.name huffman)
  cases hsens : h.sensitive with
  | true =>
    refine .inr ⟨.never, ?_⟩
    have hinserts := fieldInserts_of_sensitive (t := t) policy hsens
    cases hname : staticName h.name with
    | some i =>
      obtain ⟨other, hget⟩ := get_of_staticName hname t
      exact ⟨_, fieldInstr_of_static huffman policy hsens hname, .byIndex hget, rfl, hinserts⟩
    | none => exact ⟨_, fieldInstr_of_not_static huffman policy hsens hname, hnewName, rfl, hinserts⟩
  | false =>
    have hplain : false = (policyKind policy == .never) := by cases policy <;> rfl
    cases hlookup : lookup t h.name h.value with
    | full i =>
      exact .inl ⟨i, fieldInstr_of_full huffman policy hsens hlookup, get_of_lookup_full hlookup, rfl,
        fieldInserts_of_full policy hlookup⟩
    | nameOnly i =>
      obtain ⟨other, hget⟩ := get_of_lookup_nameOnly hlookup
      exact .inr ⟨policyKind policy, _, fieldInstr_of_nameOnly huffman policy hsens hlookup, .byIndex hget, hplain,
        fieldInserts_of_nameOnly policy hsens hlookup⟩
    | none =>
      exact .inr ⟨policyKind policy, _, fieldInstr_of_none huffman policy hsens hlookup, hnewName, hplain,
        fieldInserts_of_none policy hsens hlookup⟩

/-! ### What a run has read -/

/-- A run that has read `count` more octets of its block and emitted these headers. -/
def State.afterReading (s : State) (headers : List Header) (table : Table) (phase : Phase) (count : Nat) : State :=
  { s with out := s.out ++ headers, table := table, phase := phase, pos := s.pos + count }

theorem State.afterReading_nothing (s : State) : s.afterReading [] s.table s.phase 0 = s := by
  rw [State.afterReading, List.append_nil, Nat.add_zero]

theorem State.afterReading_afterReading (s : State) (headers headers' : List Header) (table table' : Table)
    (phase phase' : Phase) (count count' : Nat) :
    (s.afterReading headers table phase count).afterReading headers' table' phase' count' =
      s.afterReading (headers ++ headers') table' phase' (count + count') := by
  simp only [State.afterReading, List.append_assoc, Nat.add_assoc]

/-- The octets after those that come next. -/
theorem octetsFrom_add_length {s : State} {p : Nat} {octets rest : Octets} (h : s.octetsFrom p = octets ++ rest) :
    s.octetsFrom (p + octets.length) = rest := by
  rw [← State.octetsFrom_drop, h, List.drop_left]

/-! ### The rules over the octets of an encoding -/

section
variable {s : State} {rest : Octets}

/-- A step where an encoding comes next is the rule of its row (45_dispatch R237). -/
theorem step_of_encoding {i : Instr} {kind : RepKind} (hrun : s.activity = .run)
    (hoctets : s.octetsFrom s.pos = encode i ++ rest)
    (hkind : (encode i ++ rest).head?.map repKind = some kind) : step s = .next (afterRule s (ruleOf s kind)) := by
  rw [← hoctets] at hkind
  have hlt : s.pos < s.len := by
    by_contra hend
    have hlength := s.octetsFrom_length s.pos
    rw [Nat.sub_eq_zero_of_le (Nat.not_lt.1 hend), List.length_eq_zero_iff] at hlength
    rw [hlength] at hkind
    cases hkind
  rw [step_run_of_lt hrun hlt, runDecoded_eq_ruleOf hkind]

/-- `LIT` over a name operand that stands for a name goes on with that name (45_dispatch R239 steps 1 and 2). -/
theorem literalRule_of_encodeName {kind : LiteralKind} {name : NameRef} {text : Octets} (insert sensitive : Bool)
    (hoctets : s.octetsFrom s.pos = encodeName kind name ++ rest) (hname : NameDenotes s.table text name)
    (hadmits : s.limits.admitsName kind name = true) :
    literalRule (literalWidth kind) insert sensitive s =
      valueRule insert sensitive s (encodeName kind name).length text := by
  have hint {v : Nat} (after : Octets) (hv : s.limits.admitsInt v (literalWidth kind) = true) :=
    intDec_of_admitsInt after (literalWidth_le kind) (literalTypeBits_and_prefixMask kind) hv
  have hresolved {p : Nat} : namedRule insert sensitive s p name = valueRule insert sensitive s p text := by
    rw [namedRule, hname.resolveName_eq, except_ok_bind]
  rw [← hresolved]
  cases hname with
  | byIndex hget =>
    obtain ⟨k, rfl⟩ := Table.exists_succ_of_get hget
    have hindex := hint rest hadmits
    rw [← encodeName, ← hoctets] at hindex
    exact literalRule_of_byIndex insert sensitive hindex (Nat.succ_ne_zero k)
  | @literal lit htext =>
    simp only [Limits.admitsName, Bool.and_eq_true] at hadmits
    obtain ⟨hzero, hlit⟩ := hadmits
    rw [encodeName, List.append_assoc] at hoctets
    have hindex := hint (encodeString lit ++ rest) hzero
    have hliteral := decodeString_encodeString rest hlit
    rw [← octetsFrom_add_length hoctets] at hliteral
    rw [← hoctets] at hindex
    rw [encodeName, List.length_append]
    exact literalRule_of_literal insert sensitive hindex hliteral

/-- `LIT` from a value literal on (45_dispatch R239 steps 3 to 6). -/
theorem valueRule_of_encodeString {p : Nat} {value : StrLit} {n v : Octets} (insert sensitive : Bool)
    (hoctets : s.octetsFrom (s.pos + p) = encodeString value ++ rest) (hvalue : literalText value = .ok v)
    (hadmits : s.limits.admitsString value = true) :
    valueRule insert sensitive s p n = .ok { s with
      out := s.out ++ [⟨n, v, sensitive⟩]
      table := if insert then s.table.add ⟨n, v⟩ else s.table
      phase := .awaitingField
      pos := s.pos + (p + (encodeString value).length) } := by
  rw [valueRule, hoctets, strDec_encodeString rest hadmits hvalue]
  rfl

theorem admits_literalInstr (lim : Limits) (kind : LiteralKind) (name : NameRef) (value : StrLit) :
    lim.admits (literalInstr kind name value) = true ↔
      lim.admitsName kind name = true ∧ lim.admitsString value = true := by
  cases kind <;> exact Bool.and_eq_true_iff

/-- A literal on the wire, its name operand standing for a name and its value for a value, is their header
(45_dispatch R239). -/
theorem step_of_literal {kind : LiteralKind} {name : NameRef} {value : StrLit} {n v : Octets}
    (hrun : s.activity = .run) (hoctets : s.octetsFrom s.pos = encode (literalInstr kind name value) ++ rest)
    (hadmits : s.limits.admits (literalInstr kind name value) = true) (hname : NameDenotes s.table n name)
    (hvalue : literalText value = .ok v) :
    step s = .next (s.afterReading [⟨n, v, kind == .never⟩]
      (if kind == .incremental then s.table.add ⟨n, v⟩ else s.table) .awaitingField
      (encode (literalInstr kind name value)).length) := by
  obtain ⟨hadmitsName, hadmitsValue⟩ := (admits_literalInstr _ _ _ _).1 hadmits
  rw [step_of_encoding hrun hoctets (encode_repKind_literal kind name value rest), ruleOf]
  rw [encode_literalInstr, List.append_assoc] at hoctets
  rw [literalRule_of_encodeName _ _ hoctets hname hadmitsName,
    valueRule_of_encodeString _ _ (octetsFrom_add_length hoctets) hvalue hadmitsValue, encode_literalInstr,
    List.length_append]
  rfl

/-- An index on the wire is the header of its entry (45_dispatch R238). -/
theorem step_of_indexed {index : Nat} {n v : Octets} (hrun : s.activity = .run)
    (hoctets : s.octetsFrom s.pos = encode (.indexed index) ++ rest)
    (hadmits : s.limits.admits (.indexed index) = true) (hget : s.table.get index = .ok ⟨n, v⟩) :
    step s = .next (s.afterReading [⟨n, v, false⟩] s.table .awaitingField (encode (.indexed index)).length) := by
  have hint := intDec_of_admitsInt (lim := s.limits) (flags := indexedTypeBits) rest (by decide) (by decide) hadmits
  rw [step_of_encoding hrun hoctets (encode_repKind_indexed index rest), ruleOf,
    indexedRule_of_entry ((congrArg (intDec s.limits · _) hoctets).trans hint) hget]
  rfl

/-- A size update on the wire, in order and within `PROTO_MAX`, is a resize (45_dispatch R244). -/
theorem step_of_sizeupd {new : Nat} (hrun : s.activity = .run) (horder : s.phase = .awaitingSizeUpdates)
    (hoctets : s.octetsFrom s.pos = encode (.sizeupd new) ++ rest) (hadmits : s.limits.admits (.sizeupd new) = true)
    (hnew : new ≤ s.protoMax) :
    step s = .next (s.afterReading [] (s.table.resize new) s.phase (encode (.sizeupd new)).length) := by
  have hint := intDec_of_admitsInt (lim := s.limits) (flags := sizeUpdateTypeBits) rest (by decide) (by decide) hadmits
  rw [step_of_encoding hrun hoctets (encode_repKind_sizeupd new rest), ruleOf,
    sizeUpdateRule_of_le horder ((congrArg (intDec s.limits · _) hoctets).trans hint) hnew]
  simp only [State.afterReading, List.append_nil]
  rfl

/-- What `ENC.FIELD` emits for a header, decoded with the encoder's table, is that header, and the decoder inserts it if
the encoder does. -/
theorem step_of_fieldInstr {h : Header} {huffman : Bool} {policy : EncodePolicy} (hrun : s.activity = .run)
    (hoctets : s.octetsFrom s.pos = encode (fieldInstr s.table h huffman policy) ++ rest)
    (hadmits : s.limits.admits (fieldInstr s.table h huffman policy) = true) :
    step s = .next (s.afterReading [h] (tableAfterField s.table h policy) .awaitingField
      (encode (fieldInstr s.table h huffman policy)).length) := by
  rw [tableAfterField]
  rcases fieldInstr_cases s.table h huffman policy with
    ⟨index, hi, hget, hsens, hinserts⟩ | ⟨kind, name, hi, hname, hsens, hinserts⟩ <;>
    rw [hi] at hoctets hadmits ⊢ <;> rw [hinserts]
  · have hheader : (⟨h.name, h.value, false⟩ : Header) = h := congrArg (Header.mk h.name h.value) hsens.symm
    rw [step_of_indexed hrun hoctets hadmits hget, hheader]
    rfl
  · rw [step_of_literal hrun hoctets hadmits hname (literalText_literalOf h.value huffman), ← hsens]

end

/-! ### Decoder and encoder in step -/

/-- The decoder of one state is in step with the encoder of another (47_encoder R305): while a block is decoded, the
encoder registers that its octets come from are those of the state that encoded it. -/
def InStep (d e : State) : Prop := State.inSync { d with eTable := e.eTable, pending := e.pending }

theorem inStep_self_iff (s : State) : InStep s s ↔ s.inSync := Iff.rfl

theorem inStep_iff_of_not_pending {d e : State} (h : e.pending = false) : InStep d e ↔ d.table = e.eTable := by
  simp only [InStep, State.inSync, h, Bool.false_eq_true, if_false]

theorem inStep_iff_of_pending {d e : State} (h : e.pending = true) :
    InStep d e ↔ d.table.resize e.eTable.maxSize = e.eTable ∧ e.eTable.maxSize ≤ d.protoMax ∧
      d.limits.admits (.sizeupd e.eTable.maxSize) = true := by
  simp only [InStep, State.inSync, h, if_true]
  exact Iff.rfl

theorem InStep.inSync {d e : State} (h : InStep d e) (htable : d.eTable = e.eTable) (hpending : d.pending = e.pending) :
    d.inSync := by
  rw [InStep, ← htable, ← hpending] at h
  exact h

/-! ### Runs over what the encoder emits -/

/-- One step of the machine leads from the first state to the second. -/
def StepsTo (s t : State) : Prop := step s = .next t

open Relation (ReflTransGen)

theorem exists_run_of_steps {s t : State} (h : ReflTransGen StepsTo s t) :
    ∃ k, Host.Core.run Sys2Proof.core k s = .next t := by
  induction h using ReflTransGen.head_induction_on with
  | refl => exact ⟨0, rfl⟩
  | head hstep _ ih =>
    obtain ⟨k, hk⟩ := ih
    exact ⟨k + 1, (run_succ_of_step hstep k).trans hk⟩

/-- The pending size update, decoded, gives the decoder the encoder's table (47_encoder R295 step 1, R305). -/
theorem steps_of_pendingUpdate {d e : State} {rest : Octets} (hrun : d.activity = .run)
    (horder : e.pending = true → d.phase = .awaitingSizeUpdates) (hsync : InStep d e)
    (hoctets : d.octetsFrom d.pos = pendingUpdate e ++ rest) :
    ReflTransGen StepsTo d (d.afterReading [] e.eTable d.phase (pendingUpdate e).length) := by
  rw [pendingUpdate] at hoctets ⊢
  cases hpending : e.pending with
  | false =>
    rw [← (inStep_iff_of_not_pending hpending).1 hsync, if_neg Bool.false_ne_true, List.length_nil,
      State.afterReading_nothing]
  | true =>
    obtain ⟨hresize, hnew, hadmits⟩ := (inStep_iff_of_pending hpending).1 hsync
    rw [hpending, if_pos rfl] at hoctets
    have hstep := step_of_sizeupd hrun (horder hpending) hoctets hadmits hnew
    rw [hresize] at hstep
    exact .single hstep

/-- The octets of `ENC.FIELD`, decoded, give the header and the encoder's table after the field. -/
theorem steps_of_encField {d e : State} {h : Header} {huffman : Bool} {policy : EncodePolicy} {rest : Octets}
    (hrun : d.activity = .run) (horder : e.pending = true → d.phase = .awaitingSizeUpdates) (hsync : InStep d e)
    (hadmits : d.limits.admits (fieldInstr e.eTable h huffman policy) = true)
    (hoctets : d.octetsFrom d.pos = (encField h huffman policy e).1 ++ rest) :
    ReflTransGen StepsTo d (d.afterReading [h] (encField h huffman policy e).2.eTable .awaitingField
      (encField h huffman policy e).1.length) := by
  rw [encField, List.append_assoc] at hoctets
  have hfield := step_of_fieldInstr (s := d.afterReading [] e.eTable d.phase (pendingUpdate e).length) hrun
    (octetsFrom_add_length hoctets) hadmits
  rw [State.afterReading_afterReading, List.nil_append] at hfield
  rw [encField, List.length_append]
  exact (steps_of_pendingUpdate hrun horder hsync hoctets).tail hfield

/-- The octets of the fields of `ENC.ENCODE`, decoded, give their headers and leave decoder and encoder in step. -/
theorem steps_of_encFields {hs : List Header} {d e : State} {rest : Octets} (hrun : d.activity = .run)
    (horder : e.pending = true → d.phase = .awaitingSizeUpdates) (hsync : InStep d e)
    (hadmits : fieldsAdmitted d.limits hs e = true) (hoctets : d.octetsFrom d.pos = (encFields hs e).1 ++ rest) :
    ∃ table phase,
      ReflTransGen StepsTo d (d.afterReading hs table phase (encFields hs e).1.length) ∧
      InStep (d.afterReading hs table phase (encFields hs e).1.length) (encFields hs e).2 := by
  induction hs generalizing d e with
  | nil =>
    refine ⟨d.table, d.phase, ?_⟩
    rw [encFields, List.length_nil, State.afterReading_nothing]
    exact ⟨.refl, hsync⟩
  | cons h hs ih =>
    rw [fieldsAdmitted, Bool.and_eq_true] at hadmits
    obtain ⟨hfirst, hothers⟩ := hadmits
    rw [encFields, List.append_assoc] at hoctets
    have hfield := steps_of_encField hrun horder hsync hfirst hoctets
    obtain ⟨table, phase, hsteps, hend⟩ := ih
      (d := d.afterReading [h] (encField h true .incremental e).2.eTable .awaitingField
        (encField h true .incremental e).1.length)
      (e := (encField h true .incremental e).2) hrun nofun ((inStep_iff_of_not_pending rfl).2 rfl) hothers
      (octetsFrom_add_length hoctets)
    rw [State.afterReading_afterReading, List.singleton_append] at hsteps hend
    rw [encFields, List.length_append]
    exact ⟨table, phase, hfield.trans hsteps, hend⟩

theorem encFields_pending_of_not_pending (hs : List Header) {s : State} (h : s.pending = false) :
    (encFields hs s).2.pending = false := by
  induction hs generalizing s with
  | nil => exact h
  | cons header hs ih => exact ih rfl

theorem encFields_pending_of_ne_nil {hs : List Header} (h : hs ≠ []) (s : State) :
    (encFields hs s).2.pending = false := by
  obtain ⟨header, hs, rfl⟩ := List.exists_cons_of_ne_nil h
  exact encFields_pending_of_not_pending hs rfl

/-! ### The round trips -/

theorem startRun_octetsFrom (s : State) (block : Octets) :
    (s.startRun block).octetsFrom (s.startRun block).pos = block ++ [] := by
  rw [List.append_nil]
  exact Memory.readRange_ofBlock block 0

/-- A run whose steps consume its block returns the headers they have emitted. -/
theorem run_of_steps_to_end {s d : State} (hsteps : ReflTransGen StepsTo s d) (hrun : d.activity = .run)
    (hend : d.len ≤ d.pos) : ∃ k, Host.Core.run Sys2Proof.core k s = .next (finishRun d) :=
  exists_run_of_steps (hsteps.tail (step_run_of_le hrun hend))

/-- Settles O59: the run reads the pending update and the representation, and ends. -/
theorem fieldRoundTrip : Obligations.FieldRoundTrip := by
  unfold Obligations.FieldRoundTrip
  intro s h huffman policy _ herr _ hsync hadmits
  have hsteps := steps_of_encField
    (d := (encField h huffman policy s).2.startRun (encField h huffman policy s).1) (e := s) rfl (fun _ => rfl)
    hsync hadmits (startRun_octetsFrom _ _)
  obtain ⟨k, hk⟩ := run_of_steps_to_end hsteps rfl (Nat.le_add_left _ _)
  exact ⟨k, _, hk, rfl, rfl, herr, rfl, rfl⟩

theorem commandDecDecode_of_admitted {s : State} {block : Octets} (hlive : s.decLive = true) (herr : s.err = .ok)
    (hlen : block.length < Config.wordLimit) : commandDecDecode block s = s.startRun block :=
  if_pos (Bool.and_eq_true_iff.2 ⟨(decAdmitted_iff s).2 ⟨hlive, herr⟩, (fitsWord_iff _).2 hlen⟩)

/-- `DEC.DECODE` of the octets of the fields returns their headers and leaves decoder and encoder in step. -/
theorem run_of_decDecode_encFields {hs : List Header} {d e : State} {rest : List Command} (hidle : d.activity = .idle)
    (hcommands : d.commands = .decDecode (encFields hs e).1 :: rest) (hlive : d.decLive = true) (herr : d.err = .ok)
    (hlen : (encFields hs e).1.length < Config.wordLimit) (hsync : InStep d e)
    (hadmits : fieldsAdmitted d.limits hs e = true) :
    ∃ k u, Host.Core.run Sys2Proof.core k d = .next u ∧ u.activity = .idle ∧ u.reply = some (.headers hs) ∧
      u.err = .ok ∧ u.eTable = d.eTable ∧ u.pending = d.pending ∧ InStep u (encFields hs e).2 := by
  have hstart : StepsTo d (State.startRun { d with commands := rest } (encFields hs e).1) :=
    (step_of_command hidle hcommands).trans
      (congrArg _ (commandDecDecode_of_admitted (s := { d with commands := rest }) hlive herr hlen))
  obtain ⟨table, phase, hsteps, hend⟩ := steps_of_encFields
    (d := State.startRun { d with commands := rest } (encFields hs e).1) rfl (fun _ => rfl) hsync hadmits
    (startRun_octetsFrom _ _)
  obtain ⟨k, hk⟩ := run_of_steps_to_end (.head hstart hsteps) rfl (Nat.le_add_left _ _)
  exact ⟨k, _, hk, rfl, rfl, herr, rfl, rfl, hend⟩

/-- Settles O60: the block is that of the fields, and the run over it reads them one by one. -/
theorem codecRoundTrip : Obligations.CodecRoundTrip := by
  unfold Obligations.CodecRoundTrip
  intro s t hs rest block hidle hcommands henc hdec herr _ hsync hadmits hstep hreply hlen
  have ht := Host.Outcome.next.inj ((step_of_encEncode hidle henc hcommands).symm.trans hstep)
  subst ht
  cases hreply
  obtain ⟨k, u, hk, huidle, hureply, huerr, hutable, hupending, husync⟩ := run_of_decDecode_encFields
    (d := { s with
      commands := .decDecode (encFields hs s).1 :: rest
      eTable := (encFields hs s).2.eTable
      pending := (encFields hs s).2.pending
      reply := some (.octets (encFields hs s).1) })
    hidle rfl hdec herr hlen hsync hadmits
  refine ⟨k, u, hk, huidle, hureply, huerr, hutable, husync.inSync hutable hupending, fun hne => ?_⟩
  have hnone := encFields_pending_of_ne_nil hne s
  exact ⟨hupending.trans hnone, ((inStep_iff_of_not_pending hnone).1 husync).trans hutable.symm⟩

end Sys2Proof.Machine
end

section
/-!
SUPPORT. The statements about errors and stopping: every step of every state has a next state (60_exceptions R320, R330,
R342); every error that a step reports or leaves in `ERR` is one that a rule raises (R331); and which error octets raise
that do not decode (R332).
-/

namespace Sys2Proof.Machine

/-! ### Every step has a next state -/

/-- Settles O47, unit by unit: the idle block, a run, the STR unit and the HUFF unit each answer a state. -/
theorem stepAlwaysAnswersANextState : Obligations.StepAlwaysAnswersANextState := by
  unfold Obligations.StepAlwaysAnswersANextState
  intro s
  cases hact : s.activity with
  | idle => exact ⟨_, step_idle hact⟩
  | run => exact exists_step_of_run hact
  | string offset =>
    obtain ⟨r, hr⟩ := step_string hact
    exact ⟨_, hr⟩
  | huffman r => exact ⟨_, step_huffman hact⟩

/-! ### The errors a step reports to the host -/

theorem State.perform_reply_ne_error (s : State) (admitted : Bool) (after : State) (e : ErrCode) :
    (s.perform admitted after).reply ≠ some (.error e) := by
  unfold State.perform
  split <;> nofun

theorem State.encoded_reply_ne_error (s : State) (result : Octets × State) (e : ErrCode) :
    (s.encoded result).reply ≠ some (.error e) := by
  unfold State.encoded
  split <;> nofun

/-- Of the commands, `INT.DEC` alone answers an error at once, and it is one of 40_integer R132; a started `DEC.DECODE`
or `HUFF.DEC` leaves the last answer standing. -/
theorem runCommand_reported {c : Command} {s : State} {e : ErrCode}
    (h : (runCommand c s).reply = some (.error e)) : s.reply = some (.error e) ∨ Raisable e := by
  cases c with
  | intDec buffer width =>
    simp only [runCommand, commandIntDec] at h
    split at h
    · split at h
      · rename_i hint
        cases h
        exact .inr (intDec_error_raisable hint)
      · cases h
    · cases h
  | decDecode block =>
    simp only [runCommand, commandDecDecode] at h
    split at h
    · exact .inl h
    · cases h
  | huffDec payload =>
    simp only [runCommand, commandHuffDec] at h
    split at h
    · exact .inl h
    · cases h
  | intEnc v width flags =>
    simp only [runCommand, commandIntEnc] at h
    split at h <;> cases h
  | huffEnc text => cases h
  | decInit _ | decSetMaxSize _ | decSetIntValueMax _ | decSetIntEncLenMax _ | decSetStrLenMax _ | encInit _
  | encSetMaxSize _ => exact absurd h (State.perform_reply_ne_error _ _ _ e)
  | encIndexed _ _ | encNoIndex _ _ | encEncode _ => exact absurd h (State.encoded_reply_ne_error _ _ e)

theorem takeCommand_reported {s : State} {e : ErrCode} (h : (takeCommand s).reply = some (.error e)) :
    s.reply = some (.error e) ∨ Raisable e := by
  unfold takeCommand at h
  split at h
  · exact .inl h
  · rename_i rest _
    exact runCommand_reported (s := { s with commands := rest }) h

theorem RunStep.reported {s t : State} {e : ErrCode} (hst : RunStep s t) (h : t.reply = some (.error e)) :
    s.reply = some (.error e) ∨ Raisable e := by
  cases hst with
  | finished => cases h
  | raised e' he =>
    cases h
    exact .inr he
  | field => exact .inl h
  | sizeUpdate => exact .inl h

/-- A string literal on its own fails in its frame, or in its Huffman decoding (41_string R152). -/
theorem step_string_reported {s t : State} {offset : Nat} {e : ErrCode} (hact : s.activity = .string offset)
    (ht : step s = .next t) (h : t.reply = some (.error e)) : Raisable e := by
  cases hframe : decodeString s.limits (s.octetsFrom offset) with
  | error e' =>
    have hfetch : fetch s = .settled (s.primitiveError e') := by
      simp only [fetch, hact, fetchString, decodeStr, hframe, rejectError]
    cases (step_of_fetch_settled hfetch).symm.trans ht
    cases h
    exact decodeString_error_raisable hframe
  | ok answer =>
    obtain ⟨lit, n⟩ := answer
    have hfetch : fetch s = .run (stringInstr lit) { s with activity := .string (offset + n) } := by
      simp only [fetch, hact, fetchString, decodeStr, hframe]
    rw [step_of_fetch_run hfetch, exec_stringInstr] at ht
    rcases stringBody_cases lit { s with activity := .string (offset + n) } with ⟨e', htext, he⟩ | ⟨text, _, he⟩
    · cases he.symm.trans ht
      cases h
      exact literalText_error_raisable htext
    · cases he.symm.trans ht
      cases h

/-- A turn of the HUFF unit reports no error but that of `HUFF.DEC` (42_huffman R176). -/
theorem State.afterTurn_reported {s : State} {turn : HuffTurn} {e : ErrCode}
    (h : (s.afterTurn turn).reply = some (.error e)) : s.reply = some (.error e) ∨ Raisable e := by
  cases turn with
  | more r => exact .inl h
  | finished text => cases h
  | failed =>
    cases h
    exact .inr (by decide)

/-- An error that the host finds reported after a step was reported before it, or a rule raises it. -/
theorem step_reported {s t : State} {e : ErrCode} (ht : step s = .next t) (h : t.reply = some (.error e)) :
    s.reply = some (.error e) ∨ Raisable e := by
  cases hact : s.activity with
  | idle =>
    cases (step_idle hact).symm.trans ht
    exact takeCommand_reported h
  | run => exact (runStep_of_step hact ht).reported h
  | string offset => exact .inr (step_string_reported hact ht h)
  | huffman r =>
    cases (step_huffman hact).symm.trans ht
    exact State.afterTurn_reported h

/-! ### The errors a step leaves in `ERR` -/

/-- A step leaves `ERR` alone, or clears it, or sets it to an error that a rule raises. -/
theorem step_err {s t : State} (ht : step s = .next t) : t.err = s.err ∨ t.err = .ok ∨ Raisable t.err := by
  by_cases hrun : s.activity = .run
  · cases runStep_of_step hrun ht with
    | finished => exact .inl rfl
    | raised e he => exact .inr (.inr he)
    | field => exact .inl rfl
    | sizeUpdate => exact .inl rfl
  · by_cases hsame : t.err = s.err
    · exact .inl hsame
    · obtain ⟨_, hok, _⟩ := onlyDecInitClearsTheError s t hrun ht hsame
      exact .inr (.inl hok)

/-- Settles O52: what a step writes to `ERR` or reports is an error that a rule raises, which this code is not. -/
theorem unknownRepresentationIsNeverRaised : Obligations.UnknownRepresentationIsNeverRaised := by
  unfold Obligations.UnknownRepresentationIsNeverRaised
  intro s t herr hreply ht
  constructor
  · rcases step_err ht with hsame | hok | ⟨_, hne⟩
    · rwa [hsame]
    · rw [hok]
      decide
    · exact hne
  · intro hreported
    rcases step_reported ht hreported with hbefore | ⟨_, hne⟩
    · exact hreply hbefore
    · exact hne rfl

/-! ### Octets that are no representation -/

/-- The rejections of the DISP decoder where there is an octet to decode (45_dispatch R237 to R244). -/
inductive RepReject : Reject → Prop where
  | index (e : ErrCode) : RepReject (.index e)
  | newSize (e : ErrCode) : RepReject (.newSize e)
  | name (e : ErrCode) : RepReject (.name e)
  | value (name : NameRef) (e : ErrCode) : RepReject (.value name e)

theorem repReject_of_decodeValue {lim : Limits} {bs : Octets} {kind : LiteralKind} {name : NameRef} {used : Nat}
    {r : Reject} (h : decodeValue lim bs kind name used = .error r) : RepReject r := by
  unfold decodeValue at h
  split at h
  · cases h
    exact .value name _
  · cases h

theorem repReject_of_decodeLiteral {lim : Limits} {bs : Octets} {kind : LiteralKind} {r : Reject}
    (h : decodeLiteral lim bs kind = .error r) : RepReject r := by
  unfold decodeLiteral at h
  split at h
  · cases h
    exact .index _
  · split at h
    · split at h
      · cases h
        exact .name _
      · exact repReject_of_decodeValue h
    · exact repReject_of_decodeValue h

theorem repReject_of_decodeRep {lim : Limits} {b : Octet} {rest : Octets} {r : Reject}
    (h : decodeRep lim (b :: rest) = .error r) : RepReject r := by
  simp only [decodeRep] at h
  split at h
  · split at h
    · cases h
      exact .index _
    · cases h
  · exact repReject_of_decodeLiteral h
  · split at h
    · cases h
      exact .newSize _
    · cases h

theorem rejectError_newSize (phase : Phase) (t : Table) (e : ErrCode) :
    rejectError phase t (.newSize e) = if phase = .awaitingSizeUpdates then e else .sizeUpdateOutOfOrder := by
  cases phase <;> rfl

theorem rejectError_value_of_name_error {t : Table} {name : NameRef} {e' : ErrCode} (phase : Phase) (e : ErrCode)
    (h : resolveName t name = .error e') : rejectError phase t (.value name e) = e' := by
  simp only [rejectError, h]

theorem rejectError_value_of_name {t : Table} {name : NameRef} {n : Octets} (phase : Phase) (e : ErrCode)
    (h : resolveName t name = .ok n) : rejectError phase t (.value name e) = e := by
  simp only [rejectError, h]

/-- Settles O5: the step raises the error that `rejectError` chooses, and of an octet on the decoder gives only four
kinds of rejection. -/
theorem undecodableRepresentationRaises : Obligations.UndecodableRepresentationRaises := by
  unfold Obligations.UndecodableRepresentationRaises
  intro s r hrun hlt hdecode
  have hstep : step s = .next (s.raise (rejectError s.phase s.table r)) := by
    rw [step_run_of_lt hrun hlt, hdecode]
    rfl
  rw [State.octetsFrom_cons s hlt] at hdecode
  cases repReject_of_decodeRep hdecode with
  | index e => exact hstep
  | newSize e => rwa [rejectError_newSize] at hstep
  | name e => exact hstep
  | value name e =>
    refine ⟨fun e' hname => ?_, fun n hname => ?_⟩
    · rwa [rejectError_value_of_name_error _ _ hname] at hstep
    · rwa [rejectError_value_of_name _ _ hname] at hstep

end Sys2Proof.Machine
end
